-- ==== Sys2Proof/Word.lean ====
section
/-! DEFINITION. The words of the APU core's interface: data bytes, CPU addresses, event words (rules R70, R90). -/

namespace Sys2Proof

/-- A data byte: every register is 8 bits wide and every access moves one byte (R70, R75). -/
abbrev Byte := BitVec 8

/-- A 16-bit CPU bus address (R79, R90 field `A`, R236). -/
abbrev BusAddr := BitVec 16

/-- One input event: the 27-bit event word of R90. -/
abbrev EventWord := BitVec 27

end Sys2Proof
end

