-- ==== Sys2Proof/Syntax.lean ====
section
/-! DEFINITION. The input events of the APU core, one constructor for each row of spec/opcode_table.json (R90, R118).
The block has no instructions of its own (R1, R21): an event is what a step executes. -/

namespace Sys2Proof

/-- A decoded event. A constructor is named after its row's id; the byte `d` is the word's field `D`. -/
inductive Instr where
  /-- `W $4000`: PULSE1_CTRL (R95, R170). -/
  | wr4000 (d : Byte)
  /-- `W $4001`: PULSE1_SWEEP (R96, R171). -/
  | wr4001 (d : Byte)
  /-- `W $4002`: PULSE1_TLO (R97, R172). -/
  | wr4002 (d : Byte)
  /-- `W $4003`: PULSE1_THI (R98, R173). -/
  | wr4003 (d : Byte)
  /-- `W $4004`: PULSE2_CTRL (R95, R170). -/
  | wr4004 (d : Byte)
  /-- `W $4005`: PULSE2_SWEEP (R96, R171). -/
  | wr4005 (d : Byte)
  /-- `W $4006`: PULSE2_TLO (R97, R172). -/
  | wr4006 (d : Byte)
  /-- `W $4007`: PULSE2_THI (R98, R173). -/
  | wr4007 (d : Byte)
  /-- `W $4008`: TRI_LINEAR (R99, R190). -/
  | wr4008 (d : Byte)
  /-- `W $4009`: no register there (R112, R289). -/
  | wr4009 (d : Byte)
  /-- `W $400A`: TRI_TLO (R100, R191). -/
  | wr400A (d : Byte)
  /-- `W $400B`: TRI_THI (R101, R192). -/
  | wr400B (d : Byte)
  /-- `W $400C`: NOISE_CTRL (R102, R205). -/
  | wr400C (d : Byte)
  /-- `W $400D`: no register there (R112, R289). -/
  | wr400D (d : Byte)
  /-- `W $400E`: NOISE_PERIOD (R103, R206). -/
  | wr400E (d : Byte)
  /-- `W $400F`: NOISE_LEN (R104, R207). -/
  | wr400F (d : Byte)
  /-- `W $4010`: DMC_CTRL (R105, R216). -/
  | wr4010 (d : Byte)
  /-- `W $4011`: DMC_LOAD (R106, R217). -/
  | wr4011 (d : Byte)
  /-- `W $4012`: DMC_ADDR (R107, R218). -/
  | wr4012 (d : Byte)
  /-- `W $4013`: DMC_LEN (R108, R219). -/
  | wr4013 (d : Byte)
  /-- `W $4015`: STATUS (R109, R287). -/
  | wr4015 (d : Byte)
  /-- `W $4017`: FRAME (R111, R258). -/
  | wr4017 (d : Byte)
  /-- `R $4015`: STATUS (R110, R285). -/
  | rd4015
  /-- A read of one of $4000 to $400F (R288). -/
  | rdOpen4000 (a : BusAddr)
  /-- A read of one of $4010 to $4013 (R288). -/
  | rdOpen4010 (a : BusAddr)
  /-- A read of $4017 (R288). -/
  | rdOpen4017
  /-- One APU cycle (R277). -/
  | tick
  /-- A DMA delivery of the byte `d` (R238). -/
  | dmaDeliver (d : Byte)
  /-- Power-on (R330). -/
  | power
  /-- Reset (R330, R331). -/
  | reset
  deriving DecidableEq, Repr

end Sys2Proof
end

