-- ==== Sys2Proof/WellFormed.lean ====
section
/-! DEFINITION. Which events are well formed: an open-bus read names an address of its own row (R94, R118). Every
data byte is legal in every register (R119). -/

namespace Sys2Proof

/-- The addresses of row `RD_OPEN_4000`: $4000 to $400F. -/
def inRow4000 (a : BusAddr) : Bool := a.extractLsb' 4 12 == 0x400#12

/-- The addresses of row `RD_OPEN_4010`: $4010 to $4013. -/
def inRow4010 (a : BusAddr) : Bool := a.extractLsb' 2 14 == 0x1004#14

/-- Well-formed events. -/
def Instr.wf : Instr → Bool
  | .rdOpen4000 a => inRow4000 a
  | .rdOpen4010 a => inRow4010 a
  | .wr4000 _ => true
  | .wr4001 _ => true
  | .wr4002 _ => true
  | .wr4003 _ => true
  | .wr4004 _ => true
  | .wr4005 _ => true
  | .wr4006 _ => true
  | .wr4007 _ => true
  | .wr4008 _ => true
  | .wr4009 _ => true
  | .wr400A _ => true
  | .wr400B _ => true
  | .wr400C _ => true
  | .wr400D _ => true
  | .wr400E _ => true
  | .wr400F _ => true
  | .wr4010 _ => true
  | .wr4011 _ => true
  | .wr4012 _ => true
  | .wr4013 _ => true
  | .wr4015 _ => true
  | .wr4017 _ => true
  | .rd4015 => true
  | .rdOpen4017 => true
  | .tick => true
  | .dmaDeliver _ => true
  | .power => true
  | .reset => true

end Sys2Proof
end

