-- ==== Sys2Proof/Decode.lean ====
section
/-! DEFINITION. Decoding an event word and encoding an event (R90, R92, R94, R118, R120, R122), and the opcode table
as rows of mask and match. -/

namespace Sys2Proof

/-- R90 bits 26:25, the event kind `K`. -/
def eventKind (w : EventWord) : BitVec 2 := w.extractLsb' 25 2

/-- R90 bit 24, `W`: 1 for a write. -/
def eventWrite (w : EventWord) : Bool := w.getLsbD 24

/-- R90 bits 23:8, the CPU address `A`. -/
def eventAddr (w : EventWord) : BusAddr := w.extractLsb' 8 16

/-- R90 bits 7:0, the data byte `D`. -/
def eventData (w : EventWord) : Byte := w.extractLsb' 0 8

/-- The word with the four fields of R90. -/
def eventWord (k : BitVec 2) (wr : Bool) (a : BusAddr) (d : Byte) : EventWord :=
  k ++ (BitVec.ofBool wr ++ (a ++ d))

/-- Why a word is no legal event: the kind of event whose "must be 0" field is not 0 (R90, R120). -/
inductive BadWord where
  /-- A read whose `D` is not 0. -/
  | readData
  /-- A tick whose `W`, `A` or `D` is not 0. -/
  | tickFields
  /-- A DMA delivery whose `W` or `A` is not 0. -/
  | deliverFields
  /-- A power or reset event whose `W`, `A` or `D[7:1]` is not 0. -/
  | powerFields
  deriving DecidableEq, Repr

/-- What a word stands for. -/
inductive Decoded where
  /-- A row of the opcode table. -/
  | instr (i : Instr)
  /-- A bus access to an address the APU core does not decode: it changes nothing in it (R80, R92). -/
  | foreign (write : Bool) (a : BusAddr) (d : Byte)
  /-- No legal event (R120). -/
  | malformed (why : BadWord)
  deriving DecidableEq, Repr

/-- R92, R94: the event of a write of `d` to address `a`. -/
def decodeWrite (a : BusAddr) (d : Byte) : Decoded :=
  match a with
  | 0x4000#16 => .instr (.wr4000 d)
  | 0x4001#16 => .instr (.wr4001 d)
  | 0x4002#16 => .instr (.wr4002 d)
  | 0x4003#16 => .instr (.wr4003 d)
  | 0x4004#16 => .instr (.wr4004 d)
  | 0x4005#16 => .instr (.wr4005 d)
  | 0x4006#16 => .instr (.wr4006 d)
  | 0x4007#16 => .instr (.wr4007 d)
  | 0x4008#16 => .instr (.wr4008 d)
  | 0x4009#16 => .instr (.wr4009 d)
  | 0x400A#16 => .instr (.wr400A d)
  | 0x400B#16 => .instr (.wr400B d)
  | 0x400C#16 => .instr (.wr400C d)
  | 0x400D#16 => .instr (.wr400D d)
  | 0x400E#16 => .instr (.wr400E d)
  | 0x400F#16 => .instr (.wr400F d)
  | 0x4010#16 => .instr (.wr4010 d)
  | 0x4011#16 => .instr (.wr4011 d)
  | 0x4012#16 => .instr (.wr4012 d)
  | 0x4013#16 => .instr (.wr4013 d)
  | 0x4015#16 => .instr (.wr4015 d)
  | 0x4017#16 => .instr (.wr4017 d)
  | other => .foreign true other d

/-- R92, R94: the event of a read of address `a`. -/
def decodeRead (a : BusAddr) : Decoded :=
  if a = 0x4015#16 then .instr .rd4015
  else if inRow4000 a then .instr (.rdOpen4000 a)
  else if inRow4010 a then .instr (.rdOpen4010 a)
  else if a = 0x4017#16 then .instr .rdOpen4017
  else .foreign false a 0

/-- R90: the event of a word, by its kind; total, and a word with a "must be 0" field set is named as malformed
(R120). -/
def decode (w : EventWord) : Decoded :=
  if eventKind w = 0 then
    if eventWrite w then decodeWrite (eventAddr w) (eventData w)
    else if eventData w = 0 then decodeRead (eventAddr w)
    else .malformed .readData
  else if eventKind w = 1 then
    if eventWrite w = false ∧ eventAddr w = 0 ∧ eventData w = 0 then .instr .tick else .malformed .tickFields
  else if eventKind w = 2 then
    if eventWrite w = false ∧ eventAddr w = 0 then .instr (.dmaDeliver (eventData w)) else .malformed .deliverFields
  else
    if eventWrite w = false ∧ eventAddr w = 0 ∧ eventData w = 0 then .instr .power
    else if eventWrite w = false ∧ eventAddr w = 0 ∧ eventData w = 1 then .instr .reset
    else .malformed .powerFields

/-- The host's table numbering is R90's own bit numbering; a number that is no 27-bit word decodes to nothing. -/
def decodeTableWord (nbits w : Nat) : Option Instr :=
  if w % 2 ^ nbits < 2 ^ 27 then
    match decode (BitVec.ofNat 27 (w % 2 ^ nbits)) with
    | .instr i => some i
    | .foreign _ _ _ => none
    | .malformed _ => none
  else none

/-- `W $a, #$d` (R122). -/
def writeWord (a : BusAddr) (d : Byte) : EventWord := eventWord 0 true a d

/-- `R $a` (R122). -/
def readWord (a : BusAddr) : EventWord := eventWord 0 false a 0

/-- `T` (R122). -/
def tickWord : EventWord := eventWord 1 false 0 0

/-- `DMA #$d` (R122). -/
def dmaWord (d : Byte) : EventWord := eventWord 2 false 0 d

/-- `POWER` (R122). -/
def powerWord : EventWord := eventWord 3 false 0 0

/-- `RESET` (R122). -/
def resetWord : EventWord := eventWord 3 false 0 1

/-- The event word of an event (R90, R94, R122). -/
def encode : Instr → EventWord
  | .wr4000 d => writeWord 0x4000 d
  | .wr4001 d => writeWord 0x4001 d
  | .wr4002 d => writeWord 0x4002 d
  | .wr4003 d => writeWord 0x4003 d
  | .wr4004 d => writeWord 0x4004 d
  | .wr4005 d => writeWord 0x4005 d
  | .wr4006 d => writeWord 0x4006 d
  | .wr4007 d => writeWord 0x4007 d
  | .wr4008 d => writeWord 0x4008 d
  | .wr4009 d => writeWord 0x4009 d
  | .wr400A d => writeWord 0x400A d
  | .wr400B d => writeWord 0x400B d
  | .wr400C d => writeWord 0x400C d
  | .wr400D d => writeWord 0x400D d
  | .wr400E d => writeWord 0x400E d
  | .wr400F d => writeWord 0x400F d
  | .wr4010 d => writeWord 0x4010 d
  | .wr4011 d => writeWord 0x4011 d
  | .wr4012 d => writeWord 0x4012 d
  | .wr4013 d => writeWord 0x4013 d
  | .wr4015 d => writeWord 0x4015 d
  | .wr4017 d => writeWord 0x4017 d
  | .rd4015 => readWord 0x4015
  | .rdOpen4000 a => readWord a
  | .rdOpen4010 a => readWord a
  | .rdOpen4017 => readWord 0x4017
  | .tick => tickWord
  | .dmaDeliver d => dmaWord d
  | .power => powerWord
  | .reset => resetWord

/-- One row of spec/opcode_table.json: a word matches if its bits under `mask` are `bits` (R118). -/
structure OpcodeRow where
  bits : EventWord
  mask : EventWord
  build : EventWord → Instr

/-- The rows of the register writes. -/
def writeRows : List OpcodeRow :=
  [⟨0x1400000, 0x7FFFF00, fun w => .wr4000 (eventData w)⟩,
   ⟨0x1400100, 0x7FFFF00, fun w => .wr4001 (eventData w)⟩,
   ⟨0x1400200, 0x7FFFF00, fun w => .wr4002 (eventData w)⟩,
   ⟨0x1400300, 0x7FFFF00, fun w => .wr4003 (eventData w)⟩,
   ⟨0x1400400, 0x7FFFF00, fun w => .wr4004 (eventData w)⟩,
   ⟨0x1400500, 0x7FFFF00, fun w => .wr4005 (eventData w)⟩,
   ⟨0x1400600, 0x7FFFF00, fun w => .wr4006 (eventData w)⟩,
   ⟨0x1400700, 0x7FFFF00, fun w => .wr4007 (eventData w)⟩,
   ⟨0x1400800, 0x7FFFF00, fun w => .wr4008 (eventData w)⟩,
   ⟨0x1400900, 0x7FFFF00, fun w => .wr4009 (eventData w)⟩,
   ⟨0x1400A00, 0x7FFFF00, fun w => .wr400A (eventData w)⟩] ++
  [⟨0x1400B00, 0x7FFFF00, fun w => .wr400B (eventData w)⟩,
   ⟨0x1400C00, 0x7FFFF00, fun w => .wr400C (eventData w)⟩,
   ⟨0x1400D00, 0x7FFFF00, fun w => .wr400D (eventData w)⟩,
   ⟨0x1400E00, 0x7FFFF00, fun w => .wr400E (eventData w)⟩,
   ⟨0x1400F00, 0x7FFFF00, fun w => .wr400F (eventData w)⟩,
   ⟨0x1401000, 0x7FFFF00, fun w => .wr4010 (eventData w)⟩,
   ⟨0x1401100, 0x7FFFF00, fun w => .wr4011 (eventData w)⟩,
   ⟨0x1401200, 0x7FFFF00, fun w => .wr4012 (eventData w)⟩,
   ⟨0x1401300, 0x7FFFF00, fun w => .wr4013 (eventData w)⟩,
   ⟨0x1401500, 0x7FFFF00, fun w => .wr4015 (eventData w)⟩,
   ⟨0x1401700, 0x7FFFF00, fun w => .wr4017 (eventData w)⟩]

/-- The rows of the reads and of the other events. -/
def otherRows : List OpcodeRow :=
  [⟨0x0401500, 0x7FFFFFF, fun _ => .rd4015⟩,
   ⟨0x0400000, 0x7FFF0FF, fun w => .rdOpen4000 (eventAddr w)⟩,
   ⟨0x0401000, 0x7FFFCFF, fun w => .rdOpen4010 (eventAddr w)⟩,
   ⟨0x0401700, 0x7FFFFFF, fun _ => .rdOpen4017⟩,
   ⟨0x2000000, 0x7FFFFFF, fun _ => .tick⟩,
   ⟨0x4000000, 0x7FFFF00, fun w => .dmaDeliver (eventData w)⟩,
   ⟨0x6000000, 0x7FFFFFF, fun _ => .power⟩,
   ⟨0x6000001, 0x7FFFFFF, fun _ => .reset⟩]

/-- The opcode table, in its own order. -/
def opcodeRows : List OpcodeRow := writeRows ++ otherRows

/-- R118: "A decoder tests rows in table order". The laws show that `decode` answers the same. -/
def decodeByTable (w : EventWord) : Option Instr :=
  (opcodeRows.find? fun r => w &&& r.mask == r.bits).map fun r => r.build w

end Sys2Proof
end

