-- ==== Sys2Proof/Config.lean ====
section
/-! DEFINITION. The implementation parameters of rule R7 as plain data, what makes them legal, and the free values
(the draws of R10) that no rule fixes. -/

namespace Sys2Proof

/-- R7 `REGION`: fixed for a run, selects every region-dependent table (R34, R278). -/
inductive Region where
  | ntsc
  | pal
  deriving DecidableEq, Repr, Inhabited

/-- R7 `DMC_DAC_EDGE`: what a step of 2 past 0 or 127 does (R233). -/
inductive DacEdge where
  | clamp
  | hold
  deriving DecidableEq, Repr, Inhabited

/-- One of the two delays a draw admits: the shorter (1 of {1,2}, R258; 2 of {2,3}, R230) or the longer. -/
inductive Delay where
  | short
  | long
  deriving DecidableEq, Repr, Inhabited

/-- The tables that `REGION` selects (R200, R215, R250). -/
structure RegionTables where
  /-- `NOISE_PERIOD[REGION]`: noise timer reload by period index. -/
  noisePeriod : Vector (BitVec 16) 16
  /-- `DMC_PERIOD[REGION]`: DMC timer reload by rate index. -/
  dmcPeriod : Vector (BitVec 16) 16
  /-- `FS_PERIOD[REGION][0]`: cycles from one step of the 4-step mode to the next. -/
  framePeriod4 : Vector (BitVec 16) 6
  /-- `FS_PERIOD[REGION][1]`: the same for the 5-step mode. -/
  framePeriod5 : Vector (BitVec 16) 6
  deriving DecidableEq, Repr

/-- The parameters of R7. A machine carries one of these in its state, no step writes it, and a statement about
every state is therefore a statement about every choice of the parameters. -/
structure Config where
  region : Region
  lengthTable : Vector Byte 32
  dutyTable : Vector (Vector Bool 8) 4
  ntsc : RegionTables
  pal : RegionTables
  /-- `FS_QUARTER_STEPS` as a membership table over the steps 0 to 5. -/
  quarterSteps : Vector Bool 6
  /-- `FS_IRQ_STEPS` as a membership table over the steps 0 to 5. -/
  irqSteps : Vector Bool 6
  dacEdge : DacEdge
  /-- `SWEEP_ONES_COMPLEMENT[0]`, for p1. -/
  onesComplement1 : Bool
  /-- `SWEEP_ONES_COMPLEMENT[1]`, for p2. -/
  onesComplement2 : Bool
  timerRunsWhenSilent : Bool
  /-- `DMC_BUS_ADDR` as data: the arguments at which it differs from the default of R236. -/
  busAddrExceptions : List (BitVec 15 × BusAddr)
  deriving DecidableEq, Repr

/-- The tables of the machine's own region. -/
def Config.tables (c : Config) : RegionTables :=
  match c.region with
  | .ntsc => c.ntsc
  | .pal => c.pal

/-- What the rules assume of the tables of one region: every `FS_PERIOD` entry is at least 1 (R250), and a timer is
never reloaded with 0 (the reason given in D28). -/
abbrev RegionTables.wf (t : RegionTables) : Prop :=
  (∀ i : Fin 16, t.noisePeriod[i] ≠ 0) ∧ (∀ i : Fin 16, t.dmcPeriod[i] ≠ 0) ∧
    (∀ i : Fin 6, t.framePeriod4[i] ≠ 0) ∧ (∀ i : Fin 6, t.framePeriod5[i] ≠ 0)

/-- R165: how many of the eight positions of the waveform of a duty are high (12.5, 25, 50 and 75 %). -/
def dutyOnes : Vector Nat 4 := #v[1, 2, 4, 6]

/-- R165: row d of `DUTY_TABLE` has as many ones as its duty asks; which positions are high is open. -/
abbrev dutyTableWf (t : Vector (Vector Bool 8) 4) : Prop := ∀ d : Fin 4, t[d].toList.count true = dutyOnes[d]

/-- Legal parameters: the tables of the selected region and the waveform table are well formed. -/
abbrev Config.wf (c : Config) : Prop := c.tables.wf ∧ dutyTableWf c.dutyTable

/-- Free value (R82, 93 I6): what the bus holds at the n-th event where no register drives it. -/
opaque Config.freeOpenBus : Nat → Byte

/-- Free value (R258, 93 I7): which of the two delays the n-th event takes if it is a $4017 write. -/
opaque Config.freeFrameDelay : Nat → Delay

/-- Free value (R230, 93 I8): which of the two delays the n-th event takes if it starts the DMC. -/
opaque Config.freeDmcDelay : Nat → Delay

end Sys2Proof
end

