-- ==== Sys2Proof/Machine/Params.lean ====
section
/-! DEFINITION. The default values of the parameters of R7 (93_implementation_defined.md I1 to I5, 92 D9, D17 to D27,
95_test_vectors.md Conventions). -/

namespace Sys2Proof.Machine

/-- 93 I1. -/
def defaultLengthTable : Vector Byte 32 :=
  #v[10, 254, 20, 2, 40, 4, 80, 6, 160, 8, 60, 10, 14, 12, 26, 14,
     12, 16, 24, 18, 48, 20, 96, 22, 192, 24, 72, 26, 16, 28, 32, 30]

/-- 93 I2. -/
def defaultDutyTable : Vector (Vector Bool 8) 4 :=
  #v[#v[false, false, false, false, false, false, false, true],
     #v[false, false, false, false, false, false, true, true],
     #v[false, false, false, false, true, true, true, true],
     #v[true, true, true, true, true, true, false, false]]

/-- 93 I3, I4, I5, the NTSC rows. -/
def defaultNtsc : RegionTables where
  noisePeriod := #v[4, 8, 16, 32, 64, 96, 128, 160, 202, 254, 380, 508, 762, 1016, 2034, 4068]
  dmcPeriod := #v[428, 380, 340, 320, 286, 254, 226, 214, 190, 160, 142, 128, 106, 84, 72, 54]
  framePeriod4 := #v[7457, 7456, 7458, 7457, 1, 1]
  framePeriod5 := #v[7457, 7456, 7458, 7458, 7452, 1]

/-- 93 I3, I4, I5, the PAL rows. -/
def defaultPal : RegionTables where
  noisePeriod := #v[4, 8, 14, 30, 60, 88, 118, 148, 188, 236, 354, 472, 708, 944, 1890, 3778]
  dmcPeriod := #v[398, 354, 316, 298, 276, 236, 210, 198, 176, 148, 132, 118, 98, 78, 66, 50]
  framePeriod4 := #v[8313, 8314, 8312, 8313, 1, 1]
  framePeriod5 := #v[8313, 8314, 8312, 8314, 8312, 1]

/-- The default parameters for a region. -/
def defaultConfigFor (r : Region) : Config where
  region := r
  lengthTable := defaultLengthTable
  dutyTable := defaultDutyTable
  ntsc := defaultNtsc
  pal := defaultPal
  quarterSteps := #v[true, true, true, false, true, false]
  irqSteps := #v[false, false, false, true, true, true]
  dacEdge := .clamp
  onesComplement1 := true
  onesComplement2 := false
  timerRunsWhenSilent := false
  busAddrExceptions := []

/-- The parameters of `State.reset`. DESIGN CHOICE (log 2): `REGION` is open (D17); NTSC is the region of the
conventions of 95_test_vectors.md. -/
def defaultConfig : Config := defaultConfigFor .ntsc

end Sys2Proof.Machine
end

