-- ==== Sys2Proof/Machine/Units.lean ====
section
/-! DEFINITION. The units of the APU core, each with the fields and widths of rules R23 to R32. A 1-bit field is a
Bool; every other field is a bit vector of the stated width, so its arithmetic wraps (R9). -/

namespace Sys2Proof.Machine

/-- Length counter (R23). -/
structure LengthCounter where
  counter : BitVec 8
  halt : Bool
  enable : Bool
  delayHalt : Bool
  newHalt : Bool
  delayCounter : Bool
  counterIndex : BitVec 5
  deriving DecidableEq, Repr

/-- Envelope (R24). -/
structure Envelope where
  speed : BitVec 4
  useSpeedAsVolume : Bool
  loopMode : Bool
  reloadDecay : Bool
  decayCounter : BitVec 4
  decayVolume : BitVec 4
  deriving DecidableEq, Repr

/-- Sweep (R25); `pulsePeriod` is the pulse channel's own period. -/
structure Sweep where
  enable : Bool
  period : BitVec 3
  decrement : Bool
  shift : BitVec 3
  reload : Bool
  counter : BitVec 3
  pulsePeriod : BitVec 11
  deriving DecidableEq, Repr

/-- Pulse channel (R26). -/
structure Pulse where
  len : LengthCounter
  env : Envelope
  sweep : Sweep
  duty : BitVec 2
  dutyCounter : BitVec 3
  periodCounter : BitVec 16
  deriving DecidableEq, Repr

/-- Triangle channel (R27). -/
structure Triangle where
  len : LengthCounter
  period : BitVec 11
  periodCounter : BitVec 16
  stepCounter : BitVec 5
  linearLength : BitVec 7
  linearLengthCounter : BitVec 7
  reloadLinear : Bool
  deriving DecidableEq, Repr

/-- Noise channel (R28). -/
structure Noise where
  len : LengthCounter
  env : Envelope
  shortMode : Bool
  period : BitVec 4
  periodCounter : BitVec 16
  lfsr : BitVec 15
  deriving DecidableEq, Repr

/-- DMC channel (R29, R30, R31). -/
structure Dmc where
  irqEnable : Bool
  loopMode : Bool
  period : BitVec 4
  dacLatch : BitVec 7
  addressLatch : BitVec 8
  lengthLatch : BitVec 8
  readAddress : BitVec 15
  lengthCounter : BitVec 12
  periodCounter : BitVec 16
  sample : BitVec 8
  sampleValid : Bool
  bitCounter : BitVec 3
  dmaBuffer : BitVec 8
  dmaBufferValid : Bool
  dmaDelayCounter : BitVec 2
  dmaOutstanding : Bool
  irqPending : Bool
  triggered : Bool
  triggeredStop : Bool
  deriving DecidableEq, Repr

/-- Frame sequencer (R32); `mode` is true in the 5-step mode. -/
structure FrameSequencer where
  mode : Bool
  step : BitVec 3
  counter : BitVec 16
  irqInhibit : Bool
  irqPending : Bool
  delay : Bool
  delayCounter : BitVec 2
  deriving DecidableEq, Repr

/-- The channel levels the last tick produced (R35, R281). -/
structure Outputs where
  p1 : BitVec 4
  p2 : BitVec 4
  tri : BitVec 4
  noise : BitVec 4
  dmc : BitVec 7
  deriving DecidableEq, Repr

/-- Which of the two pulse channels (R22): p1 is sweep channel 0, p2 is sweep channel 1. -/
inductive PulseId where
  | p1
  | p2
  deriving DecidableEq, Repr

end Sys2Proof.Machine
end

