-- ==== Sys2Proof/Machine/ResetValues.lean ====
section
/-! DEFINITION. The reset column of rules R23 to R32 and R35, one definition a unit, and the table lookups that the
reset value of the frame sequencer's counter needs. -/

namespace Sys2Proof.Machine

/-- R23. -/
def resetLength : LengthCounter where
  counter := 0
  halt := false
  enable := false
  delayHalt := false
  newHalt := false
  delayCounter := false
  counterIndex := 0

/-- R24. -/
def resetEnvelope : Envelope where
  speed := 0
  useSpeedAsVolume := false
  loopMode := false
  reloadDecay := false
  decayCounter := 0
  decayVolume := 0

/-- R25. -/
def resetSweep : Sweep where
  enable := false
  period := 0
  decrement := false
  shift := 0
  reload := false
  counter := 0
  pulsePeriod := 0

/-- R26. -/
def resetPulse : Pulse where
  len := resetLength
  env := resetEnvelope
  sweep := resetSweep
  duty := 0
  dutyCounter := 0
  periodCounter := 1

/-- R27. -/
def resetTriangle : Triangle where
  len := resetLength
  period := 0
  periodCounter := 1
  stepCounter := 0
  linearLength := 0
  linearLengthCounter := 0
  reloadLinear := false

/-- R28. -/
def resetNoise : Noise where
  len := resetLength
  env := resetEnvelope
  shortMode := false
  period := 0
  periodCounter := 1
  lfsr := 1

/-- R29, R30, R31. -/
def resetDmc : Dmc where
  irqEnable := false
  loopMode := false
  period := 0
  dacLatch := 0
  addressLatch := 0
  lengthLatch := 0
  readAddress := 0
  lengthCounter := 0
  periodCounter := 1
  sample := 0
  sampleValid := false
  bitCounter := 0
  dmaBuffer := 0
  dmaBufferValid := false
  dmaDelayCounter := 0
  dmaOutstanding := false
  irqPending := false
  triggered := false
  triggeredStop := false

/-- `FS_PERIOD[REGION][mode][s]` (R250); a step is always 0 to 5 where this is read (R252, R259). -/
def framePeriod (c : Config) (mode : Bool) (s : BitVec 3) : BitVec 16 :=
  (if mode then c.tables.framePeriod5 else c.tables.framePeriod4)[s.toNat % 6]'(Nat.mod_lt _ (by decide))

/-- R32: every field 0 but `counter`, which is `FS_PERIOD[REGION][0][0]`. -/
def resetFrame (c : Config) : FrameSequencer where
  mode := false
  step := 0
  counter := framePeriod c false 0
  irqInhibit := false
  irqPending := false
  delay := false
  delayCounter := 0

/-- R35, R330. -/
def resetOutputs : Outputs where
  p1 := 0
  p2 := 0
  tri := 0
  noise := 0
  dmc := 0

end Sys2Proof.Machine
end

