-- ==== Sys2Proof/Machine/State.lean ====
section
/-! DEFINITION. The state of the APU core with its environment's pending input, the reasons a step can stop, and the
state after reset. -/

namespace Sys2Proof.Machine

/-- The draws supplied with one event (R10: "a free choice from set S that the model takes as an input of the step").
A draw that is not supplied is the free value of Config at the event's number. -/
structure Draws where
  /-- `open_bus`, the value of the undriven bus during a read (R82). -/
  openBus : Option Byte
  /-- `fs_write_delay` of a $4017 write (R258). -/
  frameDelay : Option Delay
  /-- `dmc_start_delay` of a DMC start (R230). -/
  dmcDelay : Option Delay
  deriving DecidableEq, Repr

/-- No draw supplied: every draw is free. -/
def Draws.free : Draws := ⟨none, none, none⟩

/-- One pending input: an event word (R90) with its draws. -/
structure Input where
  word : EventWord
  draws : Draws
  deriving DecidableEq, Repr

/-- The state. The units `p1` to `fs` are R22 to R32; `out`, `irq` and `dmaRequest` are the outputs of R35; `cfg` is
the parameters of R7, which no step writes; the other fields are the run of R91 and what an event gives back. -/
structure State where
  /-- The parameters of R7. -/
  cfg : Config
  /-- The events of the run (R91) that have not been applied yet, the next one first. -/
  inputs : List Input
  /-- The draws supplied with the event being applied. -/
  draws : Draws
  /-- How many events have been taken from the run: the argument of the free values. -/
  eventCount : Nat
  /-- The value the event being applied returned to the bus master, if it was a read of this block (R93). -/
  returned : Option Byte
  /-- Pulse channel 1. -/
  p1 : Pulse
  /-- Pulse channel 2. -/
  p2 : Pulse
  /-- Triangle channel. -/
  tri : Triangle
  /-- Noise channel. -/
  noise : Noise
  /-- DMC channel. -/
  dmc : Dmc
  /-- Frame sequencer. -/
  fs : FrameSequencer
  /-- The channel levels of the last tick (R281). -/
  out : Outputs
  /-- The level of the IRQ line (R302). -/
  irq : Bool
  /-- The DMA request the last tick emitted, with its address (R35, R281). -/
  dmaRequest : Option BusAddr
  /-- The address of the latest DMA request, held for the responder until it delivers (R10, R316). -/
  dmaAddress : BusAddr
  deriving DecidableEq, Repr

/-- Why the machine stops with a fault (R306). Safe: the hardware may go on where the model stops. -/
inductive Fault where
  /-- Raised by a DMA delivery while no request is outstanding (R238, R306). Safe. -/
  | dmaUnrequested
  /-- Raised by a DMA delivery while the channel is idle (R238, R306). Safe. -/
  | dmaWhileIdle
  deriving DecidableEq, Repr

/-- Why a step has no meaning. -/
inductive Refusal where
  /-- An event of the table whose meaning is not written yet. No arm of this model raises it. Safe. -/
  | notModelled (mnemonic : String)
  /-- Raised by `step` on a word that is no legal event (R120). Safe: the word has no hardware counterpart. -/
  | malformedEvent (why : BadWord)
  /-- Raised by `step` when the run (R91) has no further event. Safe: the model says nothing of what comes next. -/
  | endOfRun
  deriving DecidableEq, Repr

/-- The machine after reset for any parameters (R330), with no event pending. -/
def State.resetWith (c : Config) : State where
  cfg := c
  inputs := []
  draws := Draws.free
  eventCount := 0
  returned := none
  p1 := resetPulse
  p2 := resetPulse
  tri := resetTriangle
  noise := resetNoise
  dmc := resetDmc
  fs := resetFrame c
  out := resetOutputs
  irq := false
  dmaRequest := none
  dmaAddress := 0

/-- The machine right after reset with the default parameters (R330, log 2). -/
def State.reset : State := State.resetWith defaultConfig

end Sys2Proof.Machine
end

