-- ==== Sys2Proof/Machine/Operands.lean ====
section
/-! DEFINITION. Operand forms: the fields of a register's data byte (R95 to R111), the assembly of the 11-bit periods
(R113) and of the DMC's start address and length (R115, R116), and the table lookups (R114, R117). -/

namespace Sys2Proof.Machine

/-- R95: `D[7:6]`. -/
def dutyField (d : Byte) : BitVec 2 := d.extractLsb' 6 2

/-- R95, R102: `D[5]`, envelope loop and length halt. -/
def loopField (d : Byte) : Bool := d.getLsbD 5

/-- R95, R102: `D[4]`, constant volume. -/
def constantVolumeField (d : Byte) : Bool := d.getLsbD 4

/-- R95, R102: `D[3:0]`, the envelope speed. -/
def speedField (d : Byte) : BitVec 4 := d.extractLsb' 0 4

/-- R96: `D[7]`. -/
def sweepEnableField (d : Byte) : Bool := d.getLsbD 7

/-- R96: `D[6:4]`. -/
def sweepPeriodField (d : Byte) : BitVec 3 := d.extractLsb' 4 3

/-- R96: `D[3]`. -/
def sweepDecrementField (d : Byte) : Bool := d.getLsbD 3

/-- R96: `D[2:0]`. -/
def sweepShiftField (d : Byte) : BitVec 3 := d.extractLsb' 0 3

/-- R98, R101, R104, R114: `D[7:3]`, the length index. -/
def lengthIndexField (d : Byte) : BitVec 5 := d.extractLsb' 3 5

/-- R99: `D[7]`, the triangle's halt and linear control. -/
def linearControlField (d : Byte) : Bool := d.getLsbD 7

/-- R99: `D[6:0]`. -/
def linearLengthField (d : Byte) : BitVec 7 := d.extractLsb' 0 7

/-- R103: `D[7]`. -/
def shortModeField (d : Byte) : Bool := d.getLsbD 7

/-- R103, R105: `D[3:0]`, an index into a period table. -/
def periodIndexField (d : Byte) : BitVec 4 := d.extractLsb' 0 4

/-- R105: `D[7]`. -/
def dmcIrqField (d : Byte) : Bool := d.getLsbD 7

/-- R105: `D[6]`. -/
def dmcLoopField (d : Byte) : Bool := d.getLsbD 6

/-- R106: `D[6:0]`. -/
def dacField (d : Byte) : BitVec 7 := d.extractLsb' 0 7

/-- R111: `D[7]`, true for the 5-step mode. -/
def frameModeField (d : Byte) : Bool := d.getLsbD 7

/-- R111: `D[6]`. -/
def frameInhibitField (d : Byte) : Bool := d.getLsbD 6

/-- R113, R71: an 11-bit period after a write of its low register. -/
def withPeriodLow (p : BitVec 11) (d : Byte) : BitVec 11 := p.extractLsb' 8 3 ++ d

/-- R113, R71: an 11-bit period after a write of its high register. -/
def withPeriodHigh (p : BitVec 11) (d : Byte) : BitVec 11 := d.extractLsb' 0 3 ++ p.extractLsb' 0 8

/-- R115: `0x4000 + (addressLatch << 6)` in 15 bits. -/
def dmcStartAddress (latch : BitVec 8) : BitVec 15 := 0x4000 + (latch.setWidth 15 <<< 6)

/-- R116: `(lengthLatch << 4) + 1`. -/
def dmcStartLength (latch : BitVec 8) : BitVec 12 := (latch.setWidth 12 <<< 4) + 1

/-- R114, R130: `LENGTH_TABLE[index]`. -/
def lengthEntry (c : Config) (i : BitVec 5) : Byte := c.lengthTable[i.toNat]'i.isLt

/-- R165: `DUTY_TABLE[duty][dutyCounter]`. -/
def dutyBit (c : Config) (duty : BitVec 2) (pos : BitVec 3) : Bool := (c.dutyTable[duty.toNat]'duty.isLt)[pos.toNat]'pos.isLt

/-- R117, R200: `NOISE_PERIOD[REGION][period]`. -/
def noiseReload (c : Config) (i : BitVec 4) : BitVec 16 := c.tables.noisePeriod[i.toNat]'i.isLt

/-- R117, R215: `DMC_PERIOD[REGION][period]`. -/
def dmcReload (c : Config) (i : BitVec 4) : BitVec 16 := c.tables.dmcPeriod[i.toNat]'i.isLt

/-- Membership of a step in a set of steps given as a table; 6 and 7 are in no set (R250). -/
def stepIn (t : Vector Bool 6) (s : BitVec 3) : Bool := if h : s.toNat < 6 then t[s.toNat] else false

/-- R236: `DMC_BUS_ADDR(readAddress)`, by default `0x8000 | readAddress`. -/
def dmcBusAddr (c : Config) (a : BitVec 15) : BusAddr :=
  (c.busAddrExceptions.lookup a).getD (0x8000 ||| a.setWidth 16)

/-- R20, R155: `SWEEP_ONES_COMPLEMENT[channel]`. -/
def onesComplement (c : Config) : PulseId → Bool
  | .p1 => c.onesComplement1
  | .p2 => c.onesComplement2

end Sys2Proof.Machine
end

