-- ==== Sys2Proof/Machine/Flags.lean ====
section
/-! DEFINITION. The two interrupt flags, the IRQ line they drive, and the status byte (R36, R110, R301 to R304). The
block has no arithmetic flags (R36), takes no trap and returns from none (R300, R307): what it does when an interrupt
condition arises is set a flag and drive the line. -/

namespace Sys2Proof.Machine

/-- R302 `update_irq()`. -/
def updateIrq (s : State) : State := { s with irq := s.fs.irqPending || s.dmc.irqPending }

/-- R254: a frame step sets the frame interrupt flag. -/
def setFrameIrq (s : State) : State := updateIrq { s with fs := { s.fs with irqPending := true } }

/-- R285, R260: the frame interrupt flag is cleared. -/
def clearFrameIrq (s : State) : State := updateIrq { s with fs := { s.fs with irqPending := false } }

/-- R238: the end of a sample sets the DMC interrupt flag. -/
def setDmcIrq (s : State) : State := updateIrq { s with dmc := { s.dmc with irqPending := true } }

/-- R216, R287: the DMC interrupt flag is cleared. -/
def clearDmcIrq (s : State) : State := updateIrq { s with dmc := { s.dmc with irqPending := false } }

/-- R36: the channel-active condition of a length counter. -/
def lengthActive (l : LengthCounter) : Bool := l.counter != 0

/-- R36, R39: the DMC is playing. -/
def dmcActive (d : Dmc) : Bool := d.lengthCounter != 0

/-- R110, R285: the byte a $4015 read returns, bit 7 first. -/
def statusByte (openBus : Byte) (s : State) : Byte :=
  BitVec.ofBool s.dmc.irqPending ++ (BitVec.ofBool s.fs.irqPending ++ (BitVec.ofBool (openBus.getLsbD 5) ++
    (BitVec.ofBool (dmcActive s.dmc) ++ (BitVec.ofBool (lengthActive s.noise.len) ++
      (BitVec.ofBool (lengthActive s.tri.len) ++ (BitVec.ofBool (lengthActive s.p2.len) ++
        BitVec.ofBool (lengthActive s.p1.len)))))))

end Sys2Proof.Machine
end

