-- ==== Sys2Proof/Machine/Ops.lean ====
section
/-! DEFINITION. The shared operations: taking the next event and its draws, the accessors of the units, and the
sub-units that several channels own, the length counter (40_length_counter.md), the envelope (41_envelope.md) and the
sweep (42_sweep.md). -/

namespace Sys2Proof.Machine

/-! ## The run and its draws -/

/-- R91: the next event of the run and the machine that applies it; an event has returned nothing yet. -/
def fetch (s : State) : Option (EventWord × State) :=
  match s.inputs with
  | [] => none
  | e :: rest => some (e.word, { s with inputs := rest, draws := e.draws, eventCount := s.eventCount + 1, returned := none })

/-- R92: an access outside the decoded addresses changes nothing in the block. -/
def foreignAccess (s : State) : State := s

/-- R82: the draw `open_bus` of this event. -/
def openBusDraw (s : State) : Byte := s.draws.openBus.getD (Config.freeOpenBus s.eventCount)

/-- R258: the draw `fs_write_delay` in {1, 2} of this event. -/
def frameDelayDraw (s : State) : BitVec 2 :=
  match s.draws.frameDelay.getD (Config.freeFrameDelay s.eventCount) with
  | .short => 1
  | .long => 2

/-- R230: the draw `dmc_start_delay` in {2, 3} of this event. -/
def dmcDelayDraw (s : State) : BitVec 2 :=
  match s.draws.dmcDelay.getD (Config.freeDmcDelay s.eventCount) with
  | .short => 2
  | .long => 3

/-- R93: a register read returns `v`. -/
def returnByte (v : Byte) (s : State) : State := { s with returned := some v }

/-! ## The units -/

/-- One of the two pulse channels (R22). -/
def State.pulse (s : State) : PulseId → Pulse
  | .p1 => s.p1
  | .p2 => s.p2

/-- The state with one pulse channel replaced. -/
def State.withPulse (s : State) (ch : PulseId) (p : Pulse) : State :=
  match ch with
  | .p1 => { s with p1 := p }
  | .p2 => { s with p2 := p }

/-- The state with the triangle replaced. -/
def State.withTri (s : State) (t : Triangle) : State := { s with tri := t }

/-- The state with the noise channel replaced. -/
def State.withNoise (s : State) (n : Noise) : State := { s with noise := n }

/-- The state with the DMC replaced. -/
def State.withDmc (s : State) (d : Dmc) : State := { s with dmc := d }

/-- The state with the frame sequencer replaced. -/
def State.withFs (s : State) (f : FrameSequencer) : State := { s with fs := f }

/-- The state with the channel levels replaced. -/
def State.withOut (s : State) (o : Outputs) : State := { s with out := o }

/-- R251 `lengthClocking()`. -/
def lengthClocking (s : State) : Bool := s.fs.counter == 1 && (s.fs.step == 1 || s.fs.step == 4)

/-! ## Length counter -/

/-- R131. -/
def lengthSetEnable (v : Bool) (l : LengthCounter) : LengthCounter :=
  if v then { l with enable := true }
  else { l with enable := false, counter := 0, delayCounter := false }

/-- R132. -/
def lengthSetHalt (lc v : Bool) (l : LengthCounter) : LengthCounter :=
  if lc then { l with delayHalt := true, newHalt := v } else { l with halt := v }

/-- R133. -/
def lengthSetCounter (c : Config) (lc : Bool) (i : BitVec 5) (l : LengthCounter) : LengthCounter :=
  if l.enable then
    if lc then { l with delayCounter := true, counterIndex := i } else { l with counter := lengthEntry c i }
  else l

/-- R134, the buffered halt. -/
def lengthApplyHalt (l : LengthCounter) : LengthCounter :=
  if l.delayHalt then { l with halt := l.newHalt, delayHalt := false } else l

/-- R134, the buffered load. -/
def lengthApplyCounter (c : Config) (l : LengthCounter) : LengthCounter :=
  if l.delayCounter then { l with counter := lengthEntry c l.counterIndex, delayCounter := false } else l

/-- R134 `applyPending()`. -/
def lengthApplyPending (c : Config) (l : LengthCounter) : LengthCounter := lengthApplyCounter c (lengthApplyHalt l)

/-- R135 `main()`, the half-frame clock. -/
def lengthMain (l : LengthCounter) : LengthCounter :=
  if l.enable = true ∧ l.halt = false ∧ l.counter ≠ 0 then { l with counter := l.counter - 1 } else l

/-! ## Envelope -/

/-- R146, the volume step of a divider that was found at 0. -/
def envelopeDecay (e : Envelope) : BitVec 4 :=
  if e.decayVolume ≠ 0 then e.decayVolume - 1 else if e.loopMode then 15 else e.decayVolume

/-- R146 `clock()`, the quarter-frame clock. -/
def envelopeClock (e : Envelope) : Envelope :=
  if e.reloadDecay then { e with decayCounter := e.speed, decayVolume := 15, reloadDecay := false }
  else if e.decayCounter = 0 then { e with decayCounter := e.speed, decayVolume := envelopeDecay e }
  else { e with decayCounter := e.decayCounter - 1 }

/-- R147, R145 `volume()`. -/
def envelopeVolume (e : Envelope) : BitVec 4 := if e.useSpeedAsVolume then e.speed else e.decayVolume

/-! ## Sweep -/

/-- R155 `target(channel)`, an unbounded integer; `ones` is `SWEEP_ONES_COMPLEMENT[channel]`. -/
def sweepTarget (ones : Bool) (w : Sweep) : Int :=
  let period : Int := w.pulsePeriod.toNat
  let delta : Int := (w.pulsePeriod >>> w.shift.toNat).toNat
  if w.decrement then (if ones then period - delta - 1 else period - delta) else period + delta

/-- R156 `checkPeriod()`: false mutes the channel. -/
def sweepCheck (ones : Bool) (w : Sweep) : Bool :=
  if w.pulsePeriod.toNat < 8 then false
  else if w.decrement = false ∧ sweepTarget ones w > 0x7FF then false
  else true

/-- R157, the commit of the target. -/
def sweepCommit (ones : Bool) (w : Sweep) : Sweep :=
  if w.counter = 0 ∧ w.enable = true ∧ w.shift ≠ 0 ∧ sweepCheck ones w = true then
    { w with pulsePeriod := BitVec.ofInt 11 (sweepTarget ones w) }
  else w

/-- R157, the divider. -/
def sweepDivide (w : Sweep) : Sweep :=
  if w.counter = 0 ∨ w.reload = true then { w with counter := w.period, reload := false }
  else { w with counter := w.counter - 1 }

/-- R157 `clock(channel)`, the half-frame clock. -/
def sweepClock (ones : Bool) (w : Sweep) : Sweep := sweepDivide (sweepCommit ones w)

end Sys2Proof.Machine
end

