-- ==== Sys2Proof/Machine/Dmc.lean ====
section
/-! DEFINITION. The DMC channel (46_dmc.md): start and stop, the DMA request and delivery, the per-cycle clock, and the
writes of $4010 to $4013. -/

namespace Sys2Proof.Machine

/-- R230, R238: the address and length of a sample are loaded from the latches as they are now. -/
def dmcLoadSample (d : Dmc) : Dmc :=
  { d with readAddress := dmcStartAddress d.addressLatch, lengthCounter := dmcStartLength d.lengthLatch }

/-- R230, the start delay `n` is primed unless a byte is buffered or on its way. -/
def dmcPrimeDelay (n : BitVec 2) (d : Dmc) : Dmc :=
  if d.dmaBufferValid = false ∧ d.dmaOutstanding = false then { d with dmaDelayCounter := n } else d

/-- R230 `start()`; `n` is the draw `dmc_start_delay`. -/
def dmcStart (n : BitVec 2) (d : Dmc) : Dmc :=
  if d.lengthCounter = 0 then dmcPrimeDelay n { dmcLoadSample d with triggered := true } else d

/-- R231 `stop()`. -/
def dmcStop (d : Dmc) : Dmc := { d with lengthCounter := 0, triggeredStop := true }

/-- R233 `dacStep(bit)` on the level itself. -/
def dacStep (edge : DacEdge) (bit : Bool) (level : BitVec 7) : BitVec 7 :=
  let v : Int := if bit then level.toNat + 2 else level.toNat - 2
  match edge with
  | .clamp => BitVec.ofInt 7 (min 127 (max 0 v))
  | .hold => if 0 ≤ v ∧ v ≤ 127 then BitVec.ofInt 7 v else level

/-- R234, when a request is made. -/
def dmcWantsByte (d : Dmc) : Bool := d.lengthCounter != 0 && !d.dmaBufferValid && !d.dmaOutstanding

/-- The DMC during its clock, with the sample address of the request it has emitted so far in this tick, if any. At
most one is emitted, since a request is made only while none is outstanding (R234). -/
structure DmcTick where
  dmc : Dmc
  request : Option (BitVec 15)
  deriving DecidableEq, Repr

/-- R234 `requestIfNeeded()`. -/
def requestIfNeeded (x : DmcTick) : DmcTick :=
  if dmcWantsByte x.dmc then ⟨{ x.dmc with dmaOutstanding := true }, some x.dmc.readAddress⟩ else x

/-- R232, the start delay. -/
def dmcDelayStep (x : DmcTick) : DmcTick :=
  if x.dmc.dmaDelayCounter = 0 then x
  else
    let x := { x with dmc := { x.dmc with dmaDelayCounter := x.dmc.dmaDelayCounter - 1 } }
    if x.dmc.dmaDelayCounter = 0 then requestIfNeeded x else x

/-- R232, the DAC step and the bit cursor of a timer underflow. -/
def dmcShift (edge : DacEdge) (d : Dmc) : Dmc :=
  { d with
    dacLatch := if d.sampleValid then dacStep edge (d.sample.getLsbD d.bitCounter.toNat) d.dacLatch else d.dacLatch
    bitCounter := d.bitCounter + 1 }

/-- R232, the cursor wraparound: a buffered byte becomes the byte being played, or the next 8 steps are silent. -/
def dmcWrap (x : DmcTick) : DmcTick :=
  if x.dmc.dmaBufferValid then
    requestIfNeeded { x with dmc := { x.dmc with sample := x.dmc.dmaBuffer, sampleValid := true, dmaBufferValid := false } }
  else { x with dmc := { x.dmc with sampleValid := false } }

/-- R232, a timer underflow: DAC step, cursor, wraparound. -/
def dmcUnderflow (edge : DacEdge) (x : DmcTick) : DmcTick :=
  let x := { x with dmc := dmcShift edge x.dmc }
  if x.dmc.bitCounter = 0 then dmcWrap x else x

/-- R232, the timer, which never freezes. -/
def dmcTimerStep (c : Config) (x : DmcTick) : DmcTick :=
  let x := { x with dmc := { x.dmc with periodCounter := x.dmc.periodCounter - 1 } }
  if x.dmc.periodCounter = 0 then
    let x := dmcUnderflow c.dacEdge x
    { x with dmc := { x.dmc with periodCounter := dmcReload c x.dmc.period } }
  else x

/-- R232, all of the clock but its output. -/
def dmcAdvance (c : Config) (d : Dmc) : DmcTick := dmcTimerStep c (dmcDelayStep ⟨d, none⟩)

/-- R232 `dmc.clock()`: the level is taken before the timer steps, and a request drives the request output with the
byte's bus address (R234, R236). -/
def dmcClock (s : State) : State :=
  { s with
    out := { s.out with dmc := s.dmc.dacLatch }
    dmc := (dmcAdvance s.cfg s.dmc).dmc
    dmaRequest := (dmcAdvance s.cfg s.dmc).request.map (dmcBusAddr s.cfg)
    dmaAddress := ((dmcAdvance s.cfg s.dmc).request.map (dmcBusAddr s.cfg)).getD s.dmaAddress }

/-- R238, the fetched byte enters the buffer. -/
def dmcReceive (b : Byte) (d : Dmc) : Dmc :=
  { d with
    dmaOutstanding := false
    dmaBuffer := b
    dmaBufferValid := true
    readAddress := d.readAddress + 1
    lengthCounter := d.lengthCounter - 1 }

/-- R238, the sample is exhausted: it loops, or raises the interrupt if enabled. -/
def dmcSampleEnd (s : State) : State :=
  if s.dmc.loopMode then s.withDmc (dmcLoadSample s.dmc)
  else if s.dmc.irqEnable then setDmcIrq s else s

/-- R238 `setDMABuffer(data)`, when it does not fault. -/
def dmcDeliver (b : Byte) (s : State) : State :=
  let s := s.withDmc (dmcReceive b s.dmc)
  if s.dmc.lengthCounter = 0 then dmcSampleEnd s else s

/-- `W $4010` (R216). -/
def execWr4010 (d : Byte) (s : State) : Host.Outcome State Fault Refusal :=
  let s := s.withDmc { s.dmc with irqEnable := dmcIrqField d, loopMode := dmcLoopField d, period := periodIndexField d }
  .next (if dmcIrqField d then s else clearDmcIrq s)

/-- `W $4011` (R217). -/
def execWr4011 (d : Byte) (s : State) : Host.Outcome State Fault Refusal :=
  .next (s.withDmc { s.dmc with dacLatch := dacField d })

/-- `W $4012` (R218). -/
def execWr4012 (d : Byte) (s : State) : Host.Outcome State Fault Refusal :=
  .next (s.withDmc { s.dmc with addressLatch := d })

/-- `W $4013` (R219). -/
def execWr4013 (d : Byte) (s : State) : Host.Outcome State Fault Refusal :=
  .next (s.withDmc { s.dmc with lengthLatch := d })

/-- A DMA delivery (R238, R306). -/
def execDmaDeliver (d : Byte) (s : State) : Host.Outcome State Fault Refusal :=
  if s.dmc.dmaOutstanding = false then .fault .dmaUnrequested
  else if s.dmc.lengthCounter = 0 then .fault .dmaWhileIdle
  else .next (dmcDeliver d s)

end Sys2Proof.Machine
end

