-- ==== Sys2Proof/Machine/Triangle.lean ====
section
/-! DEFINITION. The triangle channel (44_triangle.md): its staircase, its two clocks and the writes of $4008 to
$400B. -/

namespace Sys2Proof.Machine

/-- R185 `tri_value(s)`. -/
def triValue (s : BitVec 5) : BitVec 4 :=
  if s.getLsbD 4 then s.extractLsb' 0 4 else s.extractLsb' 0 4 ^^^ 0x0F

/-- R186, the linear counter. -/
def triLinearCount (t : Triangle) : BitVec 7 :=
  if t.reloadLinear then t.linearLength
  else if t.linearLengthCounter ≠ 0 then t.linearLengthCounter - 1 else t.linearLengthCounter

/-- R186 `clockLinearLength()`, the quarter-frame clock. -/
def triClockLinear (t : Triangle) : Triangle :=
  { t with linearLengthCounter := triLinearCount t, reloadLinear := t.reloadLinear && t.len.halt }

/-- R187, the timer and the staircase position. -/
def triTimerStep (t : Triangle) : Triangle :=
  let t := { t with periodCounter := t.periodCounter - 1 }
  if t.periodCounter = 0 then
    { t with periodCounter := t.period.setWidth 16 + 1, stepCounter := t.stepCounter + 1 }
  else t

/-- R187, R136: the staircase is frozen while either counter is 0. -/
def triAdvance (t : Triangle) : Triangle :=
  if t.len.counter = 0 ∨ t.linearLengthCounter = 0 then t else triTimerStep t

/-- R187 `tri.clock()`: the output is the current step's value, frozen or not. -/
def triClock (s : State) : State :=
  let s := s.withOut { s.out with tri := triValue s.tri.stepCounter }
  s.withTri (triAdvance s.tri)

/-- R190; `lc` is `lengthClocking()`. -/
def triWriteLinear (lc : Bool) (d : Byte) (t : Triangle) : Triangle :=
  { t with len := lengthSetHalt lc (linearControlField d) t.len, linearLength := linearLengthField d }

/-- R191. -/
def triWriteLow (d : Byte) (t : Triangle) : Triangle := { t with period := withPeriodLow t.period d }

/-- R192. -/
def triWriteHigh (c : Config) (lc : Bool) (d : Byte) (t : Triangle) : Triangle :=
  { t with
    len := lengthSetCounter c lc (lengthIndexField d) t.len
    period := withPeriodHigh t.period d
    reloadLinear := true }

/-- `W $4008` (R190). -/
def execWr4008 (d : Byte) (s : State) : Host.Outcome State Fault Refusal :=
  .next (s.withTri (triWriteLinear (lengthClocking s) d s.tri))

/-- `W $400A` (R191). -/
def execWr400A (d : Byte) (s : State) : Host.Outcome State Fault Refusal := .next (s.withTri (triWriteLow d s.tri))

/-- `W $400B` (R192). -/
def execWr400B (d : Byte) (s : State) : Host.Outcome State Fault Refusal :=
  .next (s.withTri (triWriteHigh s.cfg (lengthClocking s) d s.tri))

end Sys2Proof.Machine
end

