-- ==== Sys2Proof/Machine/Frame.lean ====
section
/-! DEFINITION. The frame sequencer (47_frame_sequencer.md): the quarter-frame and half-frame clocks, its tick, and the
write of $4017. -/

namespace Sys2Proof.Machine

/-- R250 `FS_HALF_STEPS` = {1, 4}, fixed in both modes. -/
def isHalfStep (s : BitVec 3) : Bool := s == 1 || s == 4

/-- R253 `quarterFrame()`: the envelopes and the linear counter, which share no state. -/
def quarterFrame (s : State) : State :=
  { s with
    p1 := { s.p1 with env := envelopeClock s.p1.env }
    p2 := { s.p2 with env := envelopeClock s.p2.env }
    noise := { s.noise with env := envelopeClock s.noise.env }
    tri := triClockLinear s.tri }

/-- R255 `halfFrame()`: the length counters and the sweeps, which share no state. -/
def halfFrame (s : State) : State :=
  { s with
    p1 := { s.p1 with len := lengthMain s.p1.len, sweep := sweepClock (onesComplement s.cfg .p1) s.p1.sweep }
    p2 := { s.p2 with len := lengthMain s.p2.len, sweep := sweepClock (onesComplement s.cfg .p2) s.p2.sweep }
    tri := { s.tri with len := lengthMain s.tri.len }
    noise := { s.noise with len := lengthMain s.noise.len } }

/-- What one tick of the frame sequencer asks of the rest of the block. -/
structure FrameEvents where
  quarter : Bool
  half : Bool
  irq : Bool
  deriving DecidableEq, Repr

/-- R254, R256 `fireStep(s)`: the clocks of the current step, and the frame interrupt in the 4-step mode unless inhibited. -/
def stepEvents (c : Config) (f : FrameSequencer) : FrameEvents where
  quarter := stepIn c.quarterSteps f.step
  half := isHalfStep f.step
  irq := !f.mode && stepIn c.irqSteps f.step && !f.irqInhibit

/-- R252: the step after `s`. -/
def nextFrameStep (s : BitVec 3) : BitVec 3 := BitVec.ofNat 3 ((s.toNat + 1) % 6)

/-- R252: a pending $4017 reset expires in this tick. -/
def frameExpires (f : FrameSequencer) : Bool := f.delay && f.delayCounter - 1 == 0

/-- R252: this tick fires the current step, since it finds the counter at 1 and no reset expires. -/
def frameFires (f : FrameSequencer) : Bool := !frameExpires f && f.counter == 1

/-- R252, R254, R259: the clocks and the interrupt of one tick. A reset clocks both in the 5-step mode and sets no
interrupt. -/
def frameEvents (c : Config) (f : FrameSequencer) : FrameEvents :=
  if frameExpires f then ⟨f.mode, f.mode, false⟩
  else if frameFires f then stepEvents c f
  else ⟨false, false, false⟩

/-- R259, the sequencer after a reset of the sequence. -/
def frameRestart (c : Config) (f : FrameSequencer) : FrameSequencer :=
  { f with delay := false, step := 0, counter := framePeriod c f.mode 0 }

/-- R252, the count down to the next step; the reload reads the current mode (R261). -/
def frameCount (c : Config) (f : FrameSequencer) : FrameSequencer :=
  if f.counter = 1 then { f with step := nextFrameStep f.step, counter := framePeriod c f.mode (nextFrameStep f.step) }
  else { f with counter := f.counter - 1 }

/-- R252, the $4017 delay. -/
def frameDelayStep (f : FrameSequencer) : FrameSequencer :=
  if f.delay then { f with delayCounter := f.delayCounter - 1 } else f

/-- R252, the sequencer after one tick, but for its interrupt flag. -/
def frameNext (c : Config) (f : FrameSequencer) : FrameSequencer :=
  if frameExpires f then frameRestart c (frameDelayStep f) else frameCount c (frameDelayStep f)

/-- R252 `fs.tick()`: the quarter-frame clock runs before the half-frame clock (R254). -/
def frameTick (s : State) : State :=
  let ev := frameEvents s.cfg s.fs
  let s := s.withFs (frameNext s.cfg s.fs)
  let s := if ev.quarter then quarterFrame s else s
  let s := if ev.half then halfFrame s else s
  if ev.irq then setFrameIrq s else s

/-- `W $4017` (R258, R260). -/
def execWr4017 (d : Byte) (s : State) : Host.Outcome State Fault Refusal :=
  let s := s.withFs { s.fs with mode := frameModeField d, irqInhibit := frameInhibitField d }
  let s := if frameInhibitField d then clearFrameIrq s else s
  .next (s.withFs { s.fs with delay := true, delayCounter := frameDelayDraw s })

end Sys2Proof.Machine
end

