-- ==== Sys2Proof/Machine/Noise.lean ====
section
/-! DEFINITION. The noise channel (45_noise.md): its shift register, its clock and the writes of $400C, $400E and
$400F. -/

namespace Sys2Proof.Machine

/-- R201 `lfsrStep()` on the register itself. -/
def lfsrNext (short : Bool) (x : BitVec 15) : BitVec 15 :=
  BitVec.ofBool (x.getLsbD 0 ^^ (if short then x.getLsbD 6 else x.getLsbD 1)) ++ x.extractLsb' 1 14

/-- R202 `noise.timerStep()`. -/
def noiseTimerStep (c : Config) (n : Noise) : Noise :=
  let n := { n with periodCounter := n.periodCounter - 1 }
  if n.periodCounter = 0 then
    { n with lfsr := lfsrNext n.shortMode n.lfsr, periodCounter := noiseReload c n.period }
  else n

/-- R202, R136, the output level. -/
def noiseLevel (n : Noise) : BitVec 4 :=
  if n.len.counter = 0 then 0 else if n.lfsr.getLsbD 0 then envelopeVolume n.env else 0

/-- R202, the timer and the shift register. -/
def noiseAdvance (c : Config) (n : Noise) : Noise :=
  if n.len.counter = 0 then (if c.timerRunsWhenSilent then noiseTimerStep c n else n) else noiseTimerStep c n

/-- R202 `noise.clock()`: the output is taken before the timer steps. -/
def noiseClock (s : State) : State :=
  let s := s.withOut { s.out with noise := noiseLevel s.noise }
  s.withNoise (noiseAdvance s.cfg s.noise)

/-- R205; `lc` is `lengthClocking()`. -/
def noiseWriteCtrl (lc : Bool) (d : Byte) (n : Noise) : Noise :=
  { n with
    env := { n.env with loopMode := loopField d, useSpeedAsVolume := constantVolumeField d, speed := speedField d }
    len := lengthSetHalt lc (loopField d) n.len }

/-- R206. -/
def noiseWritePeriod (d : Byte) (n : Noise) : Noise :=
  { n with shortMode := shortModeField d, period := periodIndexField d }

/-- R207. -/
def noiseWriteLength (c : Config) (lc : Bool) (d : Byte) (n : Noise) : Noise :=
  { n with
    len := lengthSetCounter c lc (lengthIndexField d) n.len
    env := { n.env with reloadDecay := true } }

/-- `W $400C` (R205). -/
def execWr400C (d : Byte) (s : State) : Host.Outcome State Fault Refusal :=
  .next (s.withNoise (noiseWriteCtrl (lengthClocking s) d s.noise))

/-- `W $400E` (R206). -/
def execWr400E (d : Byte) (s : State) : Host.Outcome State Fault Refusal :=
  .next (s.withNoise (noiseWritePeriod d s.noise))

/-- `W $400F` (R207). -/
def execWr400F (d : Byte) (s : State) : Host.Outcome State Fault Refusal :=
  .next (s.withNoise (noiseWriteLength s.cfg (lengthClocking s) d s.noise))

end Sys2Proof.Machine
end

