-- ==== Sys2Proof/Machine/Pulse.lean ====
section
/-! DEFINITION. The pulse channels (43_pulse.md): their clock and the writes of $4000 to $4007. -/

namespace Sys2Proof.Machine

/-- R166 `p.timerStep()`. -/
def pulseTimerStep (p : Pulse) : Pulse :=
  let p := { p with periodCounter := p.periodCounter - 1 }
  if p.periodCounter = 0 then
    { p with periodCounter := (p.sweep.pulsePeriod.setWidth 16 + 1) * 2, dutyCounter := p.dutyCounter - 1 }
  else p

/-- R166, R40, R136: the channel outputs 0, being muted by its sweep or length-exhausted. -/
def pulseSilent (c : Config) (ch : PulseId) (p : Pulse) : Bool :=
  !sweepCheck (onesComplement c ch) p.sweep || p.len.counter == 0

/-- R166, the output level. -/
def pulseLevel (c : Config) (ch : PulseId) (p : Pulse) : BitVec 4 :=
  if pulseSilent c ch p then 0 else if dutyBit c p.duty p.dutyCounter then envelopeVolume p.env else 0

/-- R166, the timer and the duty sequencer. -/
def pulseAdvance (c : Config) (ch : PulseId) (p : Pulse) : Pulse :=
  if pulseSilent c ch p then (if c.timerRunsWhenSilent then pulseTimerStep p else p) else pulseTimerStep p

/-- The channel levels with one pulse channel's replaced. -/
def Outputs.withPulse (o : Outputs) (ch : PulseId) (v : BitVec 4) : Outputs :=
  match ch with
  | .p1 => { o with p1 := v }
  | .p2 => { o with p2 := v }

/-- R166 `p.clock()`: the output is taken before the timer steps. -/
def pulseClock (ch : PulseId) (s : State) : State :=
  let s := s.withOut (s.out.withPulse ch (pulseLevel s.cfg ch (s.pulse ch)))
  s.withPulse ch (pulseAdvance s.cfg ch (s.pulse ch))

/-- R170 on one channel; `lc` is `lengthClocking()`. -/
def pulseWriteCtrl (lc : Bool) (d : Byte) (p : Pulse) : Pulse :=
  { p with
    duty := dutyField d
    env := { p.env with loopMode := loopField d, useSpeedAsVolume := constantVolumeField d, speed := speedField d }
    len := lengthSetHalt lc (loopField d) p.len }

/-- R171 on one channel. -/
def pulseWriteSweep (d : Byte) (p : Pulse) : Pulse :=
  { p with sweep := { p.sweep with
      enable := sweepEnableField d
      period := sweepPeriodField d
      decrement := sweepDecrementField d
      shift := sweepShiftField d
      reload := true } }

/-- R172 on one channel. -/
def pulseWriteLow (d : Byte) (p : Pulse) : Pulse :=
  { p with sweep := { p.sweep with pulsePeriod := withPeriodLow p.sweep.pulsePeriod d } }

/-- R173 on one channel. -/
def pulseWriteHigh (c : Config) (lc : Bool) (d : Byte) (p : Pulse) : Pulse :=
  { p with
    len := lengthSetCounter c lc (lengthIndexField d) p.len
    sweep := { p.sweep with pulsePeriod := withPeriodHigh p.sweep.pulsePeriod d }
    dutyCounter := 0
    env := { p.env with reloadDecay := true } }

/-- `W $4000` (R170). -/
def execWr4000 (d : Byte) (s : State) : Host.Outcome State Fault Refusal :=
  .next (s.withPulse .p1 (pulseWriteCtrl (lengthClocking s) d s.p1))

/-- `W $4001` (R171). -/
def execWr4001 (d : Byte) (s : State) : Host.Outcome State Fault Refusal :=
  .next (s.withPulse .p1 (pulseWriteSweep d s.p1))

/-- `W $4002` (R172). -/
def execWr4002 (d : Byte) (s : State) : Host.Outcome State Fault Refusal :=
  .next (s.withPulse .p1 (pulseWriteLow d s.p1))

/-- `W $4003` (R173). -/
def execWr4003 (d : Byte) (s : State) : Host.Outcome State Fault Refusal :=
  .next (s.withPulse .p1 (pulseWriteHigh s.cfg (lengthClocking s) d s.p1))

/-- `W $4004` (R170). -/
def execWr4004 (d : Byte) (s : State) : Host.Outcome State Fault Refusal :=
  .next (s.withPulse .p2 (pulseWriteCtrl (lengthClocking s) d s.p2))

/-- `W $4005` (R171). -/
def execWr4005 (d : Byte) (s : State) : Host.Outcome State Fault Refusal :=
  .next (s.withPulse .p2 (pulseWriteSweep d s.p2))

/-- `W $4006` (R172). -/
def execWr4006 (d : Byte) (s : State) : Host.Outcome State Fault Refusal :=
  .next (s.withPulse .p2 (pulseWriteLow d s.p2))

/-- `W $4007` (R173). -/
def execWr4007 (d : Byte) (s : State) : Host.Outcome State Fault Refusal :=
  .next (s.withPulse .p2 (pulseWriteHigh s.cfg (lengthClocking s) d s.p2))

end Sys2Proof.Machine
end

