-- ==== Sys2Proof/Machine/Cycle.lean ====
section
/-! DEFINITION. The tick: one APU cycle (48_apu_controller.md rules R276, R277, R281). -/

namespace Sys2Proof.Machine

/-- R277, the last part: the buffered length writes land. -/
def applyAllPending (s : State) : State :=
  { s with
    p1 := { s.p1 with len := lengthApplyPending s.cfg s.p1.len }
    p2 := { s.p2 with len := lengthApplyPending s.cfg s.p2.len }
    tri := { s.tri with len := lengthApplyPending s.cfg s.tri.len }
    noise := { s.noise with len := lengthApplyPending s.cfg s.noise.len } }

/-- R277 `tick()`. -/
def tick (s : State) : State :=
  let s := frameTick s
  let s := pulseClock .p1 s
  let s := pulseClock .p2 s
  let s := triClock s
  let s := noiseClock s
  let s := dmcClock s
  applyAllPending s

/-- The tick event (R277). -/
def execTick (s : State) : Host.Outcome State Fault Refusal := .next (tick s)

end Sys2Proof.Machine
end

