-- ==== Sys2Proof/Machine/Power.lean ====
section
/-! DEFINITION. Power-on and reset (70_reset_and_hazards.md), and the save-state boundary of R41. -/

namespace Sys2Proof.Machine

/-- R330, R332: every unit, output and the IRQ line take their reset values; the parameters and the run stay. -/
def applyReset (s : State) : State :=
  updateIrq { s with
    p1 := resetPulse
    p2 := resetPulse
    tri := resetTriangle
    noise := resetNoise
    dmc := resetDmc
    fs := resetFrame s.cfg
    out := resetOutputs
    dmaRequest := none
    dmaAddress := 0 }

/-- `POWER` (R330). -/
def execPower (s : State) : Host.Outcome State Fault Refusal := .next (applyReset s)

/-- `RESET` (R330, R331). -/
def execReset (s : State) : Host.Outcome State Fault Refusal := .next (applyReset s)

/-- R41: what the save-state boundary carries, every field of R23 to R32 and no parameter. It does not carry the model's
own field `dmaAddress` (log 5, log 11). -/
structure SaveState where
  p1 : Pulse
  p2 : Pulse
  tri : Triangle
  noise : Noise
  dmc : Dmc
  fs : FrameSequencer
  deriving DecidableEq, Repr

/-- R41: saving. -/
def save (s : State) : SaveState := ⟨s.p1, s.p2, s.tri, s.noise, s.dmc, s.fs⟩

/-- R41: restoring; the line is recomputed, being a function of the flags (R35, R302). DESIGN CHOICE (log 11): the spec
does not say what becomes of the address of a request that is outstanding in the save; the model leaves `dmaAddress` as it
stands in the machine restored into, and there the responder's next byte comes from. -/
def restore (x : SaveState) (s : State) : State :=
  updateIrq { s with p1 := x.p1, p2 := x.p2, tri := x.tri, noise := x.noise, dmc := x.dmc, fs := x.fs }

end Sys2Proof.Machine
end

