-- ==== Sys2Proof/Machine/Status.lean ====
section
/-! DEFINITION. The status register $4015, the open-bus reads and the writes that reach no register
(48_apu_controller.md). -/

namespace Sys2Proof.Machine

/-- R287, the enables of the four length counters. -/
def writeEnables (d : Byte) (s : State) : State :=
  { s with
    p1 := { s.p1 with len := lengthSetEnable (d.getLsbD 0) s.p1.len }
    p2 := { s.p2 with len := lengthSetEnable (d.getLsbD 1) s.p2.len }
    tri := { s.tri with len := lengthSetEnable (d.getLsbD 2) s.tri.len }
    noise := { s.noise with len := lengthSetEnable (d.getLsbD 3) s.noise.len } }

/-- `W $4015` (R287). -/
def execWr4015 (d : Byte) (s : State) : Host.Outcome State Fault Refusal :=
  let s := writeEnables d s
  let s := s.withDmc { s.dmc with irqPending := false }
  let s := s.withDmc (if d.getLsbD 4 then dmcStart (dmcDelayDraw s) s.dmc else dmcStop s.dmc)
  .next (updateIrq s)

/-- `R $4015` (R285): the returned bit 6 is the flag before the clear. -/
def execRd4015 (s : State) : Host.Outcome State Fault Refusal :=
  .next (clearFrameIrq (returnByte (statusByte (openBusDraw s) s) s))

/-- A read of one of $4000 to $400F (R288, R81). -/
def execRdOpen4000 (_a : BusAddr) (s : State) : Host.Outcome State Fault Refusal := .next (returnByte (openBusDraw s) s)

/-- A read of one of $4010 to $4013 (R288, R81). -/
def execRdOpen4010 (_a : BusAddr) (s : State) : Host.Outcome State Fault Refusal := .next (returnByte (openBusDraw s) s)

/-- A read of $4017 (R288, R81). -/
def execRdOpen4017 (s : State) : Host.Outcome State Fault Refusal := .next (returnByte (openBusDraw s) s)

/-- `W $4009` (R289). -/
def execWr4009 (_d : Byte) (s : State) : Host.Outcome State Fault Refusal := .next s

/-- `W $400D` (R289). -/
def execWr400D (_d : Byte) (s : State) : Host.Outcome State Fault Refusal := .next s

end Sys2Proof.Machine
end

