-- ==== Sys2Proof/Machine/Dispatch.lean ====
section
/-! DEFINITION. The meaning of every event, one arm a row of the opcode table (R118). -/

namespace Sys2Proof.Machine

def exec (i : Instr) (s : State) : Host.Outcome State Fault Refusal :=
  match i with
  | .wr4000 d => Sys2Proof.Machine.execWr4000 d s
  | .wr4001 d => Sys2Proof.Machine.execWr4001 d s
  | .wr4002 d => Sys2Proof.Machine.execWr4002 d s
  | .wr4003 d => Sys2Proof.Machine.execWr4003 d s
  | .wr4004 d => Sys2Proof.Machine.execWr4004 d s
  | .wr4005 d => Sys2Proof.Machine.execWr4005 d s
  | .wr4006 d => Sys2Proof.Machine.execWr4006 d s
  | .wr4007 d => Sys2Proof.Machine.execWr4007 d s
  | .wr4008 d => Sys2Proof.Machine.execWr4008 d s
  | .wr4009 d => Sys2Proof.Machine.execWr4009 d s
  | .wr400A d => Sys2Proof.Machine.execWr400A d s
  | .wr400B d => Sys2Proof.Machine.execWr400B d s
  | .wr400C d => Sys2Proof.Machine.execWr400C d s
  | .wr400D d => Sys2Proof.Machine.execWr400D d s
  | .wr400E d => Sys2Proof.Machine.execWr400E d s
  | .wr400F d => Sys2Proof.Machine.execWr400F d s
  | .wr4010 d => Sys2Proof.Machine.execWr4010 d s
  | .wr4011 d => Sys2Proof.Machine.execWr4011 d s
  | .wr4012 d => Sys2Proof.Machine.execWr4012 d s
  | .wr4013 d => Sys2Proof.Machine.execWr4013 d s
  | .wr4015 d => Sys2Proof.Machine.execWr4015 d s
  | .wr4017 d => Sys2Proof.Machine.execWr4017 d s
  | .rd4015 => Sys2Proof.Machine.execRd4015 s
  | .rdOpen4000 a => Sys2Proof.Machine.execRdOpen4000 a s
  | .rdOpen4010 a => Sys2Proof.Machine.execRdOpen4010 a s
  | .rdOpen4017 => Sys2Proof.Machine.execRdOpen4017 s
  | .tick => Sys2Proof.Machine.execTick s
  | .dmaDeliver d => Sys2Proof.Machine.execDmaDeliver d s
  | .power => Sys2Proof.Machine.execPower s
  | .reset => Sys2Proof.Machine.execReset s

end Sys2Proof.Machine
end

