-- ==== Sys2Proof/Machine/Step.lean ====
section
/-! DEFINITION. One step: the next event of the run is applied completely (R91, R276, R85). -/

namespace Sys2Proof.Machine

/-- What a decoded word does to the machine that has taken it from the run. -/
def applyDecoded (x : Decoded) (s : State) : Host.Outcome State Fault Refusal :=
  match x with
  | .instr i => exec i s
  | .foreign _ _ _ => .next (foreignAccess s)
  | .malformed why => .refused (.malformedEvent why)

/-- One step: the next event of the run, decoded and applied. -/
def step (s : State) : Host.Outcome State Fault Refusal :=
  match fetch s with
  | none => .refused .endOfRun
  | some (w, t) => applyDecoded (decode w) t

/-- The machine with one more event at the head of its run, every draw of it free. -/
def State.withFetchWord (s : State) (nbits w : Nat) : State :=
  { s with inputs := ⟨BitVec.ofNat 27 (w % 2 ^ nbits), Draws.free⟩ :: s.inputs }

end Sys2Proof.Machine
end

