-- ==== Sys2Proof/Machine/Agents.lean ====
section
/-! DEFINITION. The agents of R6 and R315: who issues which event, what the DMA responder must deliver (R316), and how
a run of events is placed before the machine (R91). -/

namespace Sys2Proof.Machine

/-- R6, R315. -/
inductive Agent where
  | scheduler
  | busMaster
  | dmaResponder
  | resetSource
  deriving DecidableEq, Repr

/-- The agent that issues an event. -/
def issuer : Instr → Agent
  | .wr4000 _ => .busMaster
  | .wr4001 _ => .busMaster
  | .wr4002 _ => .busMaster
  | .wr4003 _ => .busMaster
  | .wr4004 _ => .busMaster
  | .wr4005 _ => .busMaster
  | .wr4006 _ => .busMaster
  | .wr4007 _ => .busMaster
  | .wr4008 _ => .busMaster
  | .wr4009 _ => .busMaster
  | .wr400A _ => .busMaster
  | .wr400B _ => .busMaster
  | .wr400C _ => .busMaster
  | .wr400D _ => .busMaster
  | .wr400E _ => .busMaster
  | .wr400F _ => .busMaster
  | .wr4010 _ => .busMaster
  | .wr4011 _ => .busMaster
  | .wr4012 _ => .busMaster
  | .wr4013 _ => .busMaster
  | .wr4015 _ => .busMaster
  | .wr4017 _ => .busMaster
  | .rd4015 => .busMaster
  | .rdOpen4000 _ => .busMaster
  | .rdOpen4010 _ => .busMaster
  | .rdOpen4017 => .busMaster
  | .tick => .scheduler
  | .dmaDeliver _ => .dmaResponder
  | .power => .resetSource
  | .reset => .resetSource

/-- R315, R316, R78: the word by which the responder answers the outstanding request, `mem` being the platform's memory at
the time of delivery; none while no request is outstanding. -/
def responderWord (mem : BusAddr → Byte) (s : State) : Option EventWord :=
  if s.dmc.dmaOutstanding then some (dmaWord (mem s.dmaAddress)) else none

/-- R91: the words of a run placed as the machine's pending input, their draws free. -/
def loadRun (ws : List EventWord) (s : State) : State :=
  { s with inputs := ws.map fun w => ⟨w, Draws.free⟩ }

/-- R122 `T n`: n consecutive ticks. -/
def tickWords (n : Nat) : List EventWord := List.replicate n tickWord

end Sys2Proof.Machine
end

