-- ==== Sys2Proof/Safety.lean ====
section
/-! DEFINITION. What counts as a safe run: the invariants the rules state of the machine between events (R33, R38,
R235, R302 and the reasons of D28), and the duty of whoever supplies the next event (R120, R315). -/

namespace Sys2Proof.Machine

/-- R38. -/
abbrev LengthCounter.Inv (l : LengthCounter) : Prop :=
  l.enable = false → l.counter = 0 ∧ l.delayCounter = false

/-- R33, and R32 for a pending reset. -/
abbrev FrameSequencer.Inv (f : FrameSequencer) : Prop :=
  f.step.toNat ≤ 5 ∧ f.counter ≠ 0 ∧ (f.delay = true → f.delayCounter = 1 ∨ f.delayCounter = 2)

/-- R235, R30, and a timer that is never 0 between ticks (D28). -/
abbrev Dmc.Inv (d : Dmc) : Prop :=
  (d.dmaOutstanding = true → d.dmaBufferValid = false) ∧ d.lengthCounter.toNat ≤ 4081 ∧ d.periodCounter ≠ 0

/-- R38, and a timer that is never 0 between ticks (D28). -/
abbrev Pulse.Inv (p : Pulse) : Prop := p.len.Inv ∧ p.periodCounter ≠ 0

/-- R38, and a timer that is never 0 between ticks (D28). -/
abbrev Triangle.Inv (t : Triangle) : Prop := t.len.Inv ∧ t.periodCounter ≠ 0

/-- R38, R201: the shift register never reaches 0, and a timer that is never 0 between ticks (D28). -/
abbrev Noise.Inv (n : Noise) : Prop := n.len.Inv ∧ n.lfsr ≠ 0 ∧ n.periodCounter ≠ 0

/-- R302: between events the line is the OR of the two flags. -/
abbrev State.LineIsFlags (s : State) : Prop := s.irq = (s.fs.irqPending || s.dmc.irqPending)

/-- The invariant of the machine between events, for legal parameters. -/
abbrev State.Inv (s : State) : Prop :=
  s.cfg.wf ∧ s.p1.Inv ∧ s.p2.Inv ∧ s.tri.Inv ∧ s.noise.Inv ∧ s.dmc.Inv ∧ s.fs.Inv ∧ s.LineIsFlags

/-- R306: a delivery has a meaning exactly while a request is outstanding and the channel is playing. -/
abbrev State.deliveryExpected (s : State) : Prop := s.dmc.dmaOutstanding = true ∧ s.dmc.lengthCounter ≠ 0

/-- The next event is a legal word (R120), and a delivery only where one is expected (R315). -/
def State.dutifulNext (s : State) : Prop :=
  ∃ e rest, s.inputs = e :: rest ∧ (∀ why, decode e.word ≠ .malformed why) ∧
    (∀ d, decode e.word = .instr (.dmaDeliver d) → s.deliveryExpected)

end Sys2Proof.Machine
end

