-- ==== Sys2Proof/Certificates/Slice0/Obligations.lean ====
section
/-! DEFINITION. The statements about the model, each read from the rules its docstring names. A field of a data byte is
written as a number here (`D[7:6]` is the byte divided by 64, modulo 4), not with the model's own operand functions. A
statement that holds "whatever the draw" holds for the free values and for every supplied draw. -/

namespace Sys2Proof.Spec

open Sys2Proof.Machine

/-- `D[n]` (R9). -/
def bit (d : Byte) (n : Nat) : Bool := d.toNat / 2 ^ n % 2 == 1

/-- `D[hi:lo]` as a number (R9). -/
def bits (d : Byte) (hi lo : Nat) : Nat := d.toNat / 2 ^ lo % 2 ^ (hi + 1 - lo)

/-- R251: `lengthClocking()`. -/
def HalfClockNext (s : State) : Prop := s.fs.counter.toNat = 1 ∧ (s.fs.step.toNat = 1 ∨ s.fs.step.toNat = 4)

/-- R132: what `setHalt(lc, v)` leaves. -/
def HaltWritten (lc : Prop) (v : Bool) (l l' : LengthCounter) : Prop :=
  (lc → l' = { l with delayHalt := true, newHalt := v }) ∧ (¬lc → l' = { l with halt := v })

/-- R133, R114: what `setCounter(lc, i)` leaves. -/
def LengthWritten (c : Config) (lc : Prop) (i : Nat) (l l' : LengthCounter) : Prop :=
  (l.enable = false → l' = l) ∧
  (l.enable = true → lc →
    l'.counterIndex.toNat = i ∧ l' = { l with delayCounter := true, counterIndex := l'.counterIndex }) ∧
  (l.enable = true → ¬lc → c.lengthTable[i]? = some l'.counter ∧ l' = { l with counter := l'.counter })

/-- R131: what `setEnable(v)` leaves. -/
def EnableWritten (v : Bool) (l l' : LengthCounter) : Prop :=
  (v = true → l' = { l with enable := true }) ∧
  (v = false → l' = { l with enable := false, counter := 0, delayCounter := false })

/-- R95, R102: what a control write leaves of an envelope. -/
def EnvelopeWritten (d : Byte) (e e' : Envelope) : Prop :=
  e'.speed.toNat = bits d 3 0 ∧
  e' = { e with loopMode := bit d 5, useSpeedAsVolume := bit d 4, speed := e'.speed }

/-- R170 on one channel. -/
def PulseControlled (lc : Prop) (d : Byte) (p p' : Pulse) : Prop :=
  p'.duty.toNat = bits d 7 6 ∧ EnvelopeWritten d p.env p'.env ∧ HaltWritten lc (bit d 5) p.len p'.len ∧
  p' = { p with duty := p'.duty, env := p'.env, len := p'.len }

/-- R171 on one channel. -/
def PulseSwept (d : Byte) (p p' : Pulse) : Prop :=
  p'.sweep.period.toNat = bits d 6 4 ∧ p'.sweep.shift.toNat = bits d 2 0 ∧
  p' = { p with sweep := { p.sweep with
    enable := bit d 7, period := p'.sweep.period, decrement := bit d 3, shift := p'.sweep.shift, reload := true } }

/-- R172, R113 on one channel. -/
def PulseLowered (d : Byte) (p p' : Pulse) : Prop :=
  p'.sweep.pulsePeriod.toNat = p.sweep.pulsePeriod.toNat / 256 * 256 + d.toNat ∧
  p' = { p with sweep := { p.sweep with pulsePeriod := p'.sweep.pulsePeriod } }

/-- R173, R113 on one channel. -/
def PulseRaised (c : Config) (lc : Prop) (d : Byte) (p p' : Pulse) : Prop :=
  p'.sweep.pulsePeriod.toNat = bits d 2 0 * 256 + p.sweep.pulsePeriod.toNat % 256 ∧
  LengthWritten c lc (bits d 7 3) p.len p'.len ∧
  p' = { p with
    len := p'.len
    sweep := { p.sweep with pulsePeriod := p'.sweep.pulsePeriod }
    dutyCounter := 0
    env := { p.env with reloadDecay := true } }

/-- R40, R155, R156: the sweep mutes the channel. -/
def Muted (w : Sweep) : Prop :=
  w.pulsePeriod.toNat < 8 ∨
  (w.decrement = false ∧ w.pulsePeriod.toNat + w.pulsePeriod.toNat / 2 ^ w.shift.toNat > 0x7FF)

/-- R147: the volume of an envelope. -/
def volume (e : Envelope) : BitVec 4 := if e.useSpeedAsVolume then e.speed else e.decayVolume

/-- R166, R168: a pulse channel's level and timer in one tick, from the channel as the frame sequencer leaves it. -/
def PulseTicked (c : Config) (p p' : Pulse) (level : BitVec 4) : Prop :=
  ((Muted p.sweep ∨ p.len.counter = 0) → level = 0 ∧
    (c.timerRunsWhenSilent = false → p'.periodCounter = p.periodCounter ∧ p'.dutyCounter = p.dutyCounter)) ∧
  (¬(Muted p.sweep ∨ p.len.counter = 0) →
    ∃ row b, c.dutyTable[p.duty.toNat]? = some row ∧ row[p.dutyCounter.toNat]? = some b ∧
      level = if b then volume p.env else 0) ∧
  ((¬(Muted p.sweep ∨ p.len.counter = 0) ∨ c.timerRunsWhenSilent = true) →
    (p.periodCounter.toNat = 1 → p'.periodCounter.toNat = (p.sweep.pulsePeriod.toNat + 1) * 2 ∧
      p'.dutyCounter.toNat = (p.dutyCounter.toNat + 7) % 8) ∧
    (p.periodCounter.toNat ≠ 1 → p'.periodCounter = p.periodCounter - 1 ∧ p'.dutyCounter = p.dutyCounter)) ∧
  p' = { p with len := p'.len, periodCounter := p'.periodCounter, dutyCounter := p'.dutyCounter }

/-- R252: a pending $4017 reset expires in the next tick. -/
def RestartNext (s : State) : Prop := s.fs.delay = true ∧ s.fs.delayCounter.toNat = 1

/-- R252: the next tick fires the current step. -/
def StepNext (s : State) : Prop := ¬RestartNext s ∧ s.fs.counter.toNat = 1

/-- R250: step k is in a set of steps given as a table. -/
def InSteps (t : Vector Bool 6) (k : BitVec 3) : Prop := t[k.toNat]? = some true

/-- R254, R259: the next tick clocks the quarter-frame units. -/
def QuarterNext (s : State) : Prop :=
  (RestartNext s ∧ s.fs.mode = true) ∨ (StepNext s ∧ InSteps s.cfg.quarterSteps s.fs.step)

/-- R254, R259: the next tick clocks the half-frame units. -/
def HalfNext (s : State) : Prop :=
  (RestartNext s ∧ s.fs.mode = true) ∨ (StepNext s ∧ (s.fs.step.toNat = 1 ∨ s.fs.step.toNat = 4))

/-- R254, R303: the next tick sets the frame interrupt flag. -/
def FrameIrqNext (s : State) : Prop :=
  StepNext s ∧ s.fs.mode = false ∧ s.fs.irqInhibit = false ∧ InSteps s.cfg.irqSteps s.fs.step

/-- `FS_PERIOD[REGION][mode][k]` is `v` (R250). -/
def PeriodIs (c : Config) (mode : Bool) (k : Nat) (v : BitVec 16) : Prop :=
  (if mode then c.tables.framePeriod5 else c.tables.framePeriod4)[k]? = some v

/-- R134, R135: a length counter in one tick, `half` saying that the half-frame clock comes. -/
def LengthTicked (c : Config) (half : Prop) (l l' : LengthCounter) : Prop :=
  l'.halt = (if l.delayHalt then l.newHalt else l.halt) ∧
  (l.delayCounter = true → c.lengthTable[l.counterIndex.toNat]? = some l'.counter) ∧
  (l.delayCounter = false → (half ∧ l.enable = true ∧ l.halt = false ∧ l.counter ≠ 0) →
    l'.counter.toNat + 1 = l.counter.toNat) ∧
  (l.delayCounter = false → ¬(half ∧ l.enable = true ∧ l.halt = false ∧ l.counter ≠ 0) → l'.counter = l.counter) ∧
  l' = { l with halt := l'.halt, counter := l'.counter, delayHalt := false, delayCounter := false }

/-- R135: a half-frame clock takes the counter to 0. -/
def LastClock (l : LengthCounter) : Prop := l.enable = true ∧ l.halt = false ∧ l.counter.toNat = 1

/-- R232, R234: the next tick requests a byte. Bytes remain, none is outstanding, and either the start delay ends with the
buffer empty or the cursor wraps with the buffer full (which the wrap empties). -/
def RequestNext (s : State) : Prop :=
  s.dmc.lengthCounter ≠ 0 ∧ s.dmc.dmaOutstanding = false ∧
  ((s.dmc.dmaDelayCounter.toNat = 1 ∧ s.dmc.dmaBufferValid = false) ∨
   (s.dmc.periodCounter.toNat = 1 ∧ s.dmc.bitCounter.toNat = 7 ∧ s.dmc.dmaBufferValid = true))

/-- An address the APU core decodes (R79, R94). -/
def DecodedAddr (a : BusAddr) : Prop :=
  (0x4000 ≤ a.toNat ∧ a.toNat ≤ 0x4013) ∨ a.toNat = 0x4015 ∨ a.toNat = 0x4017

/-- The machine that has taken the event `e` from a run whose rest is `rest` (R91). -/
def taken (s : State) (e : Input) (rest : List Input) : State :=
  { s with inputs := rest, draws := e.draws, eventCount := s.eventCount + 1, returned := none }

/-- `n` ticks with nothing between them. -/
def ticks (n : Nat) (s : State) : State := tick^[n] s

end Sys2Proof.Spec

open Sys2Proof Sys2Proof.Machine Sys2Proof.Spec

/-! ## Encoding, decoding and the step -/

/-- Sanity: words of 95_test_vectors.md L2 Encoding and of spec/opcode_table.json decode to the events they stand for;
words with a "must be 0" field set are malformed, and an undecoded address is no access to the block. -/
def Obligations.SpecWordsDecodeToTheirEvents : Prop :=
  decode 0x140150F = .instr (.wr4015 0x0F) ∧ decode 0x14000BA = .instr (.wr4000 0xBA) ∧
  decode 0x14017C0 = .instr (.wr4017 0xC0) ∧ decode 0x1400B08 = .instr (.wr400B 0x08) ∧
  decode 0x1400E80 = .instr (.wr400E 0x80) ∧ decode 0x140108F = .instr (.wr4010 0x8F) ∧
  decode 0x0401500 = .instr .rd4015 ∧ decode 0x0400900 = .instr (.rdOpen4000 0x4009) ∧
  decode 0x0401300 = .instr (.rdOpen4010 0x4013) ∧ decode 0x0401700 = .instr .rdOpen4017 ∧
  decode 0x2000000 = .instr .tick ∧ decode 0x4000055 = .instr (.dmaDeliver 0x55) ∧
  decode 0x6000000 = .instr .power ∧ decode 0x6000001 = .instr .reset ∧
  decode 0x2000001 = .malformed .tickFields ∧ decode 0x4000100 = .malformed .deliverFields ∧
  decode 0x3000000 = .malformed .tickFields ∧ decode 0x0401501 = .malformed .readData ∧
  decode 0x1401800 = .foreign true 0x4018 0x00

/-- R90, R94, R118: decoding and encoding are inverse: a word decodes to an event exactly if the event is well formed
and the word is its encoding. No bit of a word is dropped, and no two words stand for one event. -/
def Obligations.DecodingInvertsEncoding : Prop :=
  ∀ (w : EventWord) (i : Instr), decode w = .instr i ↔ (i.wf = true ∧ encode i = w)

/-- R118: testing the rows of the opcode table in order gives the same event as decoding by the fields of R90. -/
def Obligations.DecodingFollowsTheOpcodeTable : Prop :=
  ∀ (w : EventWord) (i : Instr), decode w = .instr i ↔ decodeByTable w = some i

/-- R90, R120: a word is malformed exactly if a field that must be 0 is not: with K the number of bits 26:25, W bit
24, A bits 23:8 and D bits 7:0. -/
def Obligations.MalformedWordsAreThoseWithAFieldSetThatMustBeZero : Prop :=
  ∀ w : EventWord, (∃ why, decode w = .malformed why) ↔
    ((w.toNat / 2 ^ 25 = 0 ∧ w.toNat / 2 ^ 24 % 2 = 0 ∧ w.toNat % 2 ^ 8 ≠ 0) ∨
     (w.toNat / 2 ^ 25 = 1 ∧ w.toNat % 2 ^ 25 ≠ 0) ∨
     (w.toNat / 2 ^ 25 = 2 ∧ w.toNat % 2 ^ 25 / 2 ^ 8 ≠ 0) ∨
     (w.toNat / 2 ^ 25 = 3 ∧ w.toNat % 2 ^ 25 / 2 ≠ 0))

/-- R91, R276: when the next event of the run decodes to a well-formed event i, the step is exec of i on the machine
that has taken the event from the run; taking it supplies the event's draws, counts it and clears the last read
value (the model's own bookkeeping, log 1 and log 3). -/
def Obligations.StepExecutesTheDecodedEvent : Prop :=
  ∀ (s : State) (e : Input) (rest : List Input) (i : Instr),
    s.inputs = e :: rest → decode e.word = .instr i → step s = exec i (taken s e rest)

/-- R92: a legal bus access to a decoded address goes to that address's register; any other legal bus access changes
nothing in the block. That it completes, returns nothing and only moves the run on is the model's reading (log 4, with
the bookkeeping of log 1 and log 3). -/
def Obligations.BusAccessesReachTheirRegisterOrChangeNothing : Prop :=
  ∀ (s : State) (e : Input) (rest : List Input), s.inputs = e :: rest → eventKind e.word = 0 →
    (eventWrite e.word = true ∨ eventData e.word = 0) →
    (DecodedAddr (eventAddr e.word) →
      ∃ i, decode e.word = .instr i ∧ eventAddr (encode i) = eventAddr e.word ∧ step s = exec i (taken s e rest)) ∧
    (¬DecodedAddr (eventAddr e.word) → step s = .next (taken s e rest))

/-- R120: a malformed word is refused by name and not executed. That a run with no further event is refused too is the
model's choice (log 1). -/
def Obligations.MalformedWordsAndEmptyRunsAreRefused : Prop :=
  (∀ (s : State) (e : Input) (rest : List Input) (why : BadWord),
    s.inputs = e :: rest → decode e.word = .malformed why → step s = .refused (.malformedEvent why)) ∧
  (∀ s : State, s.inputs = [] → step s = .refused .endOfRun)

/-! ## Register writes -/

/-- R170, R95: a write of $4000 or $4004 completes in every state, writes duty, loop, constant volume, speed and
(at once, or buffered in a half-frame cycle) halt of its channel, and changes nothing else. -/
def Obligations.PulseControlWritesSetTheirFields : Prop :=
  ∀ (d : Byte) (s : State),
    (∃ t, exec (.wr4000 d) s = .next t ∧ t = { s with p1 := t.p1 } ∧ PulseControlled (HalfClockNext s) d s.p1 t.p1) ∧
    (∃ t, exec (.wr4004 d) s = .next t ∧ t = { s with p2 := t.p2 } ∧ PulseControlled (HalfClockNext s) d s.p2 t.p2)

/-- R171, R96, R158: a write of $4001 or $4005 sets the four sweep fields and the reload flag of its channel, and
changes nothing else. -/
def Obligations.PulseSweepWritesSetTheirFields : Prop :=
  ∀ (d : Byte) (s : State),
    (∃ t, exec (.wr4001 d) s = .next t ∧ t = { s with p1 := t.p1 } ∧ PulseSwept d s.p1 t.p1) ∧
    (∃ t, exec (.wr4005 d) s = .next t ∧ t = { s with p2 := t.p2 } ∧ PulseSwept d s.p2 t.p2)

/-- R172, R97, R113: a write of $4002 or $4006 replaces bits 7 to 0 of its channel's period, and changes nothing
else. -/
def Obligations.PulsePeriodLowWritesKeepTheHighBits : Prop :=
  ∀ (d : Byte) (s : State),
    (∃ t, exec (.wr4002 d) s = .next t ∧ t = { s with p1 := t.p1 } ∧ PulseLowered d s.p1 t.p1) ∧
    (∃ t, exec (.wr4006 d) s = .next t ∧ t = { s with p2 := t.p2 } ∧ PulseLowered d s.p2 t.p2)

/-- R173, R98, R113, R114: a write of $4003 or $4007 loads the length counter (not while disabled; buffered in a
half-frame cycle), replaces bits 10 to 8 of the period, resets the duty position and restarts the envelope, and
changes nothing else. -/
def Obligations.PulseHighWritesLoadLengthAndRestart : Prop :=
  ∀ (d : Byte) (s : State),
    (∃ t, exec (.wr4003 d) s = .next t ∧ t = { s with p1 := t.p1 } ∧
      PulseRaised s.cfg (HalfClockNext s) d s.p1 t.p1) ∧
    (∃ t, exec (.wr4007 d) s = .next t ∧ t = { s with p2 := t.p2 } ∧
      PulseRaised s.cfg (HalfClockNext s) d s.p2 t.p2)

/-- R190, R99: a write of $4008 sets the linear length and (at once or buffered) the halt, and changes nothing
else. -/
def Obligations.TriangleLinearWriteSetsItsFields : Prop :=
  ∀ (d : Byte) (s : State), ∃ t, exec (.wr4008 d) s = .next t ∧ t = { s with tri := t.tri } ∧
    t.tri.linearLength.toNat = bits d 6 0 ∧ HaltWritten (HalfClockNext s) (bit d 7) s.tri.len t.tri.len ∧
    t.tri = { s.tri with len := t.tri.len, linearLength := t.tri.linearLength }

/-- R191, R192, R113: a write of $400A replaces bits 7 to 0 of the triangle's period; a write of $400B replaces bits
10 to 8, loads the length counter and sets the linear reload; neither changes anything else. -/
def Obligations.TrianglePeriodWritesSetTheirFields : Prop :=
  ∀ (d : Byte) (s : State),
    (∃ t, exec (.wr400A d) s = .next t ∧ t = { s with tri := t.tri } ∧
      t.tri.period.toNat = s.tri.period.toNat / 256 * 256 + d.toNat ∧
      t.tri = { s.tri with period := t.tri.period }) ∧
    (∃ t, exec (.wr400B d) s = .next t ∧ t = { s with tri := t.tri } ∧
      t.tri.period.toNat = bits d 2 0 * 256 + s.tri.period.toNat % 256 ∧
      LengthWritten s.cfg (HalfClockNext s) (bits d 7 3) s.tri.len t.tri.len ∧
      t.tri = { s.tri with len := t.tri.len, period := t.tri.period, reloadLinear := true })

/-- R205, R102: a write of $400C sets loop, constant volume, speed and (at once or buffered) halt of the noise channel,
and changes nothing else. -/
def Obligations.NoiseControlWriteSetsItsFields : Prop :=
  ∀ (d : Byte) (s : State), ∃ t, exec (.wr400C d) s = .next t ∧ t = { s with noise := t.noise } ∧
    EnvelopeWritten d s.noise.env t.noise.env ∧ HaltWritten (HalfClockNext s) (bit d 5) s.noise.len t.noise.len ∧
    t.noise = { s.noise with env := t.noise.env, len := t.noise.len }

/-- R206, R207, R103, R104: a write of $400E sets mode and period index; a write of $400F loads the length counter and
restarts the envelope; neither changes anything else. -/
def Obligations.NoisePeriodAndLengthWritesSetTheirFields : Prop :=
  ∀ (d : Byte) (s : State),
    (∃ t, exec (.wr400E d) s = .next t ∧ t = { s with noise := t.noise } ∧ t.noise.period.toNat = bits d 3 0 ∧
      t.noise = { s.noise with shortMode := bit d 7, period := t.noise.period }) ∧
    (∃ t, exec (.wr400F d) s = .next t ∧ t = { s with noise := t.noise } ∧
      LengthWritten s.cfg (HalfClockNext s) (bits d 7 3) s.noise.len t.noise.len ∧
      t.noise = { s.noise with len := t.noise.len, env := { s.noise.env with reloadDecay := true } })

/-- R216, R105: a write of $4010 sets interrupt enable, loop and rate; with bit 7 clear it also clears the DMC
interrupt flag and recomputes the line; it changes nothing else. -/
def Obligations.DmcControlWriteSetsItsFields : Prop :=
  ∀ (d : Byte) (s : State), ∃ t, exec (.wr4010 d) s = .next t ∧ t = { s with dmc := t.dmc, irq := t.irq } ∧
    t.dmc.period.toNat = bits d 3 0 ∧
    t.dmc = { s.dmc with
      irqEnable := bit d 7, loopMode := bit d 6, period := t.dmc.period
      irqPending := bit d 7 && s.dmc.irqPending } ∧
    t.irq = if bit d 7 then s.irq else s.fs.irqPending

/-- R217, R218, R219: writes of $4011, $4012 and $4013 set the level, the address latch and the length latch, and
change nothing else. -/
def Obligations.DmcLatchWritesSetTheirFields : Prop :=
  ∀ (d : Byte) (s : State),
    (∃ t, exec (.wr4011 d) s = .next t ∧ t.dmc.dacLatch.toNat = bits d 6 0 ∧
      t = { s with dmc := { s.dmc with dacLatch := t.dmc.dacLatch } }) ∧
    (∃ t, exec (.wr4012 d) s = .next t ∧ t.dmc.addressLatch.toNat = d.toNat ∧
      t = { s with dmc := { s.dmc with addressLatch := t.dmc.addressLatch } }) ∧
    (∃ t, exec (.wr4013 d) s = .next t ∧ t.dmc.lengthLatch.toNat = d.toNat ∧
      t = { s with dmc := { s.dmc with lengthLatch := t.dmc.lengthLatch } })

/-- R287, R131, R230, R231, R115, R116: a write of $4015 sets the four enables (disabling zeroes the counter and
discards a buffered load), clears the DMC interrupt flag, and starts the DMC if idle (bit 4 set; whatever the draw, the
delay is 2 or 3, and a supplied draw is the one taken) or stops it (bit 4 clear); the line is the frame flag then;
nothing else changes. -/
def Obligations.StatusWriteEnablesChannelsAndStartsOrStopsTheDmc : Prop :=
  ∀ (d : Byte) (s : State), ∃ t, exec (.wr4015 d) s = .next t ∧
    t = { s with
      p1 := { s.p1 with len := t.p1.len }, p2 := { s.p2 with len := t.p2.len }
      tri := { s.tri with len := t.tri.len }, noise := { s.noise with len := t.noise.len }
      dmc := t.dmc, irq := s.fs.irqPending } ∧
    EnableWritten (bit d 0) s.p1.len t.p1.len ∧ EnableWritten (bit d 1) s.p2.len t.p2.len ∧
    EnableWritten (bit d 2) s.tri.len t.tri.len ∧ EnableWritten (bit d 3) s.noise.len t.noise.len ∧
    (bit d 4 = false → t.dmc = { s.dmc with irqPending := false, lengthCounter := 0, triggeredStop := true }) ∧
    (bit d 4 = true → s.dmc.lengthCounter ≠ 0 → t.dmc = { s.dmc with irqPending := false }) ∧
    (bit d 4 = true → s.dmc.lengthCounter = 0 →
      t.dmc.readAddress.toNat = 0x4000 + s.dmc.addressLatch.toNat * 64 ∧
      t.dmc.lengthCounter.toNat = s.dmc.lengthLatch.toNat * 16 + 1 ∧
      (s.dmc.dmaBufferValid = false → s.dmc.dmaOutstanding = false →
        (t.dmc.dmaDelayCounter.toNat = 2 ∨ t.dmc.dmaDelayCounter.toNat = 3) ∧
        (s.draws.dmcDelay = some .short → t.dmc.dmaDelayCounter.toNat = 2) ∧
        (s.draws.dmcDelay = some .long → t.dmc.dmaDelayCounter.toNat = 3)) ∧
      (s.dmc.dmaBufferValid = true ∨ s.dmc.dmaOutstanding = true →
        t.dmc.dmaDelayCounter = s.dmc.dmaDelayCounter) ∧
      t.dmc = { s.dmc with
        irqPending := false, readAddress := t.dmc.readAddress, lengthCounter := t.dmc.lengthCounter
        triggered := true, dmaDelayCounter := t.dmc.dmaDelayCounter })

/-- R258, R260, R111: a write of $4017 sets mode and inhibit at once, clears the frame interrupt flag (and recomputes
the line) if inhibit is set, and makes a reset of the sequence pending (whatever the draw, 1 or 2 ticks later; a
supplied draw is the one taken); nothing else changes. -/
def Obligations.FrameWriteSetsModeAndDelaysTheRestart : Prop :=
  ∀ (d : Byte) (s : State), ∃ t, exec (.wr4017 d) s = .next t ∧ t = { s with fs := t.fs, irq := t.irq } ∧
    t.fs = { s.fs with
      mode := bit d 7, irqInhibit := bit d 6, irqPending := s.fs.irqPending && !bit d 6
      delay := true, delayCounter := t.fs.delayCounter } ∧
    (t.fs.delayCounter.toNat = 1 ∨ t.fs.delayCounter.toNat = 2) ∧
    (s.draws.frameDelay = some .short → t.fs.delayCounter.toNat = 1) ∧
    (s.draws.frameDelay = some .long → t.fs.delayCounter.toNat = 2) ∧
    t.irq = if bit d 6 then s.dmc.irqPending else s.irq

/-- R289, R112: writes of $4009 and $400D complete and change no state. -/
def Obligations.WritesOfUnusedRegistersChangeNothing : Prop :=
  ∀ (d : Byte) (s : State), exec (.wr4009 d) s = .next s ∧ exec (.wr400D d) s = .next s

/-! ## Register reads -/

/-- R285, R110: a read of $4015 returns the flags before the clear and the channel-active conditions in the stated bits
(bit 5 from the open bus, whatever the draw), then clears the frame interrupt flag and recomputes the line; nothing
else changes. -/
def Obligations.StatusReadReturnsFlagsAndClearsFrameIrq : Prop :=
  ∀ s : State, ∃ (t : State) (v : Byte), exec .rd4015 s = .next t ∧
    t = { s with returned := some v, fs := { s.fs with irqPending := false }, irq := s.dmc.irqPending } ∧
    bit v 7 = s.dmc.irqPending ∧ bit v 6 = s.fs.irqPending ∧ bit v 5 = bit (openBusDraw s) 5 ∧
    bit v 4 = decide (s.dmc.lengthCounter ≠ 0) ∧ bit v 3 = decide (s.noise.len.counter ≠ 0) ∧
    bit v 2 = decide (s.tri.len.counter ≠ 0) ∧ bit v 1 = decide (s.p2.len.counter ≠ 0) ∧
    bit v 0 = decide (s.p1.len.counter ≠ 0) ∧ (∀ b, s.draws.openBus = some b → openBusDraw s = b)

/-- R76: a read of $4015 clears the frame interrupt flag, and no other read has a side effect: it completes and
changes only the value the read returned. -/
def Obligations.OnlyTheStatusReadHasASideEffect : Prop :=
  ∀ s : State,
    (∃ t, exec .rd4015 s = .next t ∧ t.fs.irqPending = false) ∧
    (∀ i : Instr, (∃ a, i = .rdOpen4000 a ∨ i = .rdOpen4010 a) ∨ i = .rdOpen4017 →
      ∃ t, exec i s = .next t ∧ t = { s with returned := t.returned })

/-- R288, R82: a read of any other decoded address returns the open-bus draw, whatever it is; a supplied draw is the
one returned. -/
def Obligations.OpenReadsReturnTheOpenBusDraw : Prop :=
  ∀ (s : State) (i : Instr), (∃ a, i = .rdOpen4000 a ∨ i = .rdOpen4010 a) ∨ i = .rdOpen4017 →
    exec i s = .next { s with returned := some (openBusDraw s) } ∧
    (∀ b, s.draws.openBus = some b → openBusDraw s = b)

/-! ## DMA, power and reset -/

/-- R238: a delivery that is expected completes: the byte enters the buffer, the address moves on modulo 2^15, the
count goes down, and a sample that is exhausted loops from the latches, or raises the interrupt if enabled; nothing
else changes. -/
def Obligations.ExpectedDeliveryFillsTheBuffer : Prop :=
  ∀ (b : Byte) (s : State), s.dmc.dmaOutstanding = true → s.dmc.lengthCounter ≠ 0 →
    ∃ t, exec (.dmaDeliver b) s = .next t ∧ t = { s with dmc := t.dmc, irq := t.irq } ∧
    t.dmc = { s.dmc with
      dmaOutstanding := false, dmaBuffer := b, dmaBufferValid := true, readAddress := t.dmc.readAddress
      lengthCounter := t.dmc.lengthCounter, irqPending := t.dmc.irqPending } ∧
    (¬(s.dmc.lengthCounter.toNat = 1 ∧ s.dmc.loopMode = true) →
      t.dmc.readAddress.toNat = (s.dmc.readAddress.toNat + 1) % 2 ^ 15 ∧
      t.dmc.lengthCounter.toNat + 1 = s.dmc.lengthCounter.toNat) ∧
    (s.dmc.lengthCounter.toNat = 1 ∧ s.dmc.loopMode = true →
      t.dmc.readAddress.toNat = 0x4000 + s.dmc.addressLatch.toNat * 64 ∧
      t.dmc.lengthCounter.toNat = s.dmc.lengthLatch.toNat * 16 + 1) ∧
    (s.dmc.lengthCounter.toNat = 1 ∧ s.dmc.loopMode = false ∧ s.dmc.irqEnable = true →
      t.dmc.irqPending = true ∧ t.irq = true) ∧
    (¬(s.dmc.lengthCounter.toNat = 1 ∧ s.dmc.loopMode = false ∧ s.dmc.irqEnable = true) →
      t.dmc.irqPending = s.dmc.irqPending ∧ t.irq = s.irq)

/-- R306, R238, R300: exec never refuses, and it faults exactly for a delivery with no request outstanding
(DmaUnrequested) and, one being outstanding, for a delivery while idle (DmaWhileIdle). -/
def Obligations.OnlyUnexpectedDeliveriesFault : Prop :=
  ∀ (i : Instr) (s : State),
    (∀ r, exec i s ≠ .refused r) ∧
    (exec i s = .fault .dmaUnrequested ↔ (∃ b, i = .dmaDeliver b) ∧ s.dmc.dmaOutstanding = false) ∧
    (exec i s = .fault .dmaWhileIdle ↔
      (∃ b, i = .dmaDeliver b) ∧ s.dmc.dmaOutstanding = true ∧ s.dmc.lengthCounter = 0)

/-- R330, R331, and the reset columns of R23 to R32 and R35: power-on and reset complete in every state with the same
result: every field 0 but the five timers and the shift register, which are 1, and the frame counter, which is
`FS_PERIOD[REGION][0][0]`; the outputs and the line are 0. The parameters and the run stay; that the request outputs are
cleared is the model's choice (log 5). -/
def Obligations.PowerAndResetGiveTheResetState : Prop :=
  ∀ s : State, ∃ t, exec .power s = .next t ∧ exec .reset s = .next t ∧
    t = { s with
      p1 := t.p1, p2 := t.p1, tri := t.tri, noise := t.noise, dmc := t.dmc, fs := t.fs
      out := ⟨0, 0, 0, 0, 0⟩, irq := false, dmaRequest := none, dmaAddress := 0 } ∧
    t.p1.len = ⟨0, false, false, false, false, false, 0⟩ ∧ t.p1.env = ⟨0, false, false, false, 0, 0⟩ ∧
    t.p1.sweep = ⟨false, 0, false, 0, false, 0, 0⟩ ∧ t.p1.duty = 0 ∧ t.p1.dutyCounter = 0 ∧
    t.p1.periodCounter = 1 ∧
    t.tri = ⟨t.p1.len, 0, 1, 0, 0, 0, false⟩ ∧ t.noise = ⟨t.p1.len, t.p1.env, false, 0, 1, 1⟩ ∧
    t.dmc = ⟨false, false, 0, 0, 0, 0, 0, 0, 1, 0, false, 0, 0, false, 0, false, false, false, false⟩ ∧
    PeriodIs s.cfg false 0 t.fs.counter ∧ t.fs = ⟨false, 0, t.fs.counter, false, false, false, 0⟩

/-- R332: no operation in flight survives a reset or a power-on: no buffered length write, no pending sequence reset,
no primed start delay, no outstanding request; a delivery made after it is unrequested and faults. -/
def Obligations.NothingInFlightSurvivesAReset : Prop :=
  ∀ (s : State) (i : Instr), i = .reset ∨ i = .power → ∃ t, exec i s = .next t ∧
    (∀ l, l = t.p1.len ∨ l = t.p2.len ∨ l = t.tri.len ∨ l = t.noise.len →
      l.delayHalt = false ∧ l.delayCounter = false) ∧
    t.fs.delay = false ∧ t.dmc.dmaDelayCounter = 0 ∧ t.dmc.dmaOutstanding = false ∧
    ∀ b, exec (.dmaDeliver b) t = .fault .dmaUnrequested

/-! ## The tick -/

/-- R277, R252, R259: a tick completes in every state. A pending reset that expires restarts the sequence; else a
counter found at 1 moves to the next step (modulo 6) and is reloaded from the current mode's table; else it counts
down. The frame interrupt flag is set exactly in the 4-step mode at an interrupt step that is not inhibited, and the
line with it. The parameters, the run and the last read value are unchanged, and so are the mode, the inhibit, the
duties, the triangle's period and linear length, the noise period and mode, and every field of the DMC but its level,
timer, sample, sample validity, cursor, buffer validity, start delay and outstanding request. (What a tick does to
envelopes, sweeps, linear counter and length counters is said by the two statements after this one.) -/
def Obligations.TickAdvancesTheFrameSequencer : Prop :=
  ∀ s : State, ∃ t, exec .tick s = .next t ∧
    t = { s with
      p1 := t.p1, p2 := t.p2, tri := t.tri, noise := t.noise, dmc := t.dmc, fs := t.fs, out := t.out, irq := t.irq
      dmaRequest := t.dmaRequest, dmaAddress := t.dmaAddress } ∧
    (RestartNext s → t.fs.delay = false ∧ t.fs.delayCounter = 0 ∧ t.fs.step = 0 ∧
      PeriodIs s.cfg s.fs.mode 0 t.fs.counter) ∧
    (¬RestartNext s → t.fs.delay = s.fs.delay ∧
      t.fs.delayCounter = if s.fs.delay then s.fs.delayCounter - 1 else s.fs.delayCounter) ∧
    (StepNext s → t.fs.step.toNat = (s.fs.step.toNat + 1) % 6 ∧
      PeriodIs s.cfg s.fs.mode t.fs.step.toNat t.fs.counter) ∧
    (¬RestartNext s → ¬StepNext s → t.fs.step = s.fs.step ∧ t.fs.counter = s.fs.counter - 1) ∧
    t.fs.mode = s.fs.mode ∧ t.fs.irqInhibit = s.fs.irqInhibit ∧
    (FrameIrqNext s → t.fs.irqPending = true ∧ t.irq = true) ∧
    (¬FrameIrqNext s → t.fs.irqPending = s.fs.irqPending ∧ t.irq = s.irq) ∧
    t.p1.duty = s.p1.duty ∧ t.p2.duty = s.p2.duty ∧ t.tri.period = s.tri.period ∧
    t.tri.linearLength = s.tri.linearLength ∧ t.noise.period = s.noise.period ∧
    t.noise.shortMode = s.noise.shortMode ∧
    t.dmc = { s.dmc with
      dacLatch := t.dmc.dacLatch, periodCounter := t.dmc.periodCounter, sample := t.dmc.sample
      sampleValid := t.dmc.sampleValid, bitCounter := t.dmc.bitCounter, dmaBufferValid := t.dmc.dmaBufferValid
      dmaDelayCounter := t.dmc.dmaDelayCounter, dmaOutstanding := t.dmc.dmaOutstanding }

/-- R253, R254, R255, R259: the units the frame sequencer clocks in a tick: the three envelopes and the linear counter
with a quarter-frame clock, the two sweeps with a half-frame clock, and none of them otherwise; the linear counter sees
the halt of before the tick. The frame sequencer clocks them before the channels run: the channels it hands on have
these values already, and nothing else of theirs has changed but the length counters (of the next statement). -/
def Obligations.TickClocksEnvelopesLinearCounterAndSweeps : Prop :=
  ∀ s t : State, exec .tick s = .next t →
    (QuarterNext s → t.p1.env = envelopeClock s.p1.env ∧ t.p2.env = envelopeClock s.p2.env ∧
      t.noise.env = envelopeClock s.noise.env ∧
      t.tri.linearLengthCounter = (triClockLinear s.tri).linearLengthCounter ∧
      t.tri.reloadLinear = (triClockLinear s.tri).reloadLinear) ∧
    (¬QuarterNext s → t.p1.env = s.p1.env ∧ t.p2.env = s.p2.env ∧ t.noise.env = s.noise.env ∧
      t.tri.linearLengthCounter = s.tri.linearLengthCounter ∧ t.tri.reloadLinear = s.tri.reloadLinear) ∧
    (HalfNext s → t.p1.sweep = sweepClock s.cfg.onesComplement1 s.p1.sweep ∧
      t.p2.sweep = sweepClock s.cfg.onesComplement2 s.p2.sweep) ∧
    (¬HalfNext s → t.p1.sweep = s.p1.sweep ∧ t.p2.sweep = s.p2.sweep) ∧
    (frameTick s).p1 = { s.p1 with env := t.p1.env, sweep := t.p1.sweep, len := (frameTick s).p1.len } ∧
    (frameTick s).p2 = { s.p2 with env := t.p2.env, sweep := t.p2.sweep, len := (frameTick s).p2.len } ∧
    (frameTick s).tri = { s.tri with
      linearLengthCounter := t.tri.linearLengthCounter, reloadLinear := t.tri.reloadLinear
      len := (frameTick s).tri.len } ∧
    (frameTick s).noise = { s.noise with env := t.noise.env, len := (frameTick s).noise.len }

/-- R134, R135, R277: every length counter in a tick: the half-frame clock where it comes sees the old halt and counter,
and the buffered halt and load land at the end of the tick, so that nothing stays buffered across a cycle boundary. The
half-frame clock comes before the channels run, and the buffered writes after: a counter that it takes from 1 to 0
silences its channel in the same tick, whatever is buffered. -/
def Obligations.TickClocksLengthCountersThenAppliesBufferedWrites : Prop :=
  ∀ s t : State, exec .tick s = .next t →
    LengthTicked s.cfg (HalfNext s) s.p1.len t.p1.len ∧ LengthTicked s.cfg (HalfNext s) s.p2.len t.p2.len ∧
    LengthTicked s.cfg (HalfNext s) s.tri.len t.tri.len ∧ LengthTicked s.cfg (HalfNext s) s.noise.len t.noise.len ∧
    (HalfNext s →
      (frameTick s).p1.len = lengthMain s.p1.len ∧ (frameTick s).p2.len = lengthMain s.p2.len ∧
      (frameTick s).tri.len = lengthMain s.tri.len ∧ (frameTick s).noise.len = lengthMain s.noise.len ∧
      (LastClock s.p1.len → t.out.p1 = 0) ∧ (LastClock s.p2.len → t.out.p2 = 0) ∧
      (LastClock s.noise.len → t.out.noise = 0) ∧
      (LastClock s.tri.len → t.tri.stepCounter = s.tri.stepCounter ∧ t.tri.periodCounter = s.tri.periodCounter)) ∧
    (¬HalfNext s →
      (frameTick s).p1.len = s.p1.len ∧ (frameTick s).p2.len = s.p2.len ∧
      (frameTick s).tri.len = s.tri.len ∧ (frameTick s).noise.len = s.noise.len)

/-- R166, R168: both pulse channels in a tick, after the frame sequencer: level 0 while muted or length-exhausted (the
timer then frozen unless the parameter lets it run), else the waveform's bit scaled by the volume; the timer reloads
from twice the period plus 1 and steps the duty position down. -/
def Obligations.TickRunsThePulseChannels : Prop :=
  ∀ s t : State, exec .tick s = .next t →
    PulseTicked s.cfg (frameTick s).p1 t.p1 t.out.p1 ∧ PulseTicked s.cfg (frameTick s).p2 t.p2 t.out.p2

/-- R185, R187: the triangle in a tick, after the frame sequencer: the level is that of the current step, 15 down to 0
then 0 up to 15; with a counter at 0 the timer and the step stay; else the timer counts and its underflow steps the
staircase. -/
def Obligations.TickRunsTheTriangle : Prop :=
  ∀ s t : State, exec .tick s = .next t →
    t.out.tri.toNat = (if s.tri.stepCounter.toNat < 16 then 15 - s.tri.stepCounter.toNat
      else s.tri.stepCounter.toNat - 16) ∧
    ((frameTick s).tri.len.counter = 0 ∨ (frameTick s).tri.linearLengthCounter = 0 →
      t.tri.periodCounter = s.tri.periodCounter ∧ t.tri.stepCounter = s.tri.stepCounter) ∧
    (¬((frameTick s).tri.len.counter = 0 ∨ (frameTick s).tri.linearLengthCounter = 0) →
      (s.tri.periodCounter.toNat = 1 → t.tri.periodCounter.toNat = s.tri.period.toNat + 1 ∧
        t.tri.stepCounter.toNat = (s.tri.stepCounter.toNat + 1) % 32) ∧
      (s.tri.periodCounter.toNat ≠ 1 → t.tri.periodCounter = s.tri.periodCounter - 1 ∧
        t.tri.stepCounter = s.tri.stepCounter))

/-- R201, R202: the noise channel in a tick, after the frame sequencer: level 0 while length-exhausted (the timer then
frozen unless the parameter lets it run), else the volume while bit 0 of the shift register is 1; a timer underflow
shifts the register right and feeds bit 0 xor bit 1 (or bit 6 in short mode) into bit 14, and reloads from the period
table. -/
def Obligations.TickRunsTheNoiseChannel : Prop :=
  ∀ s t : State, exec .tick s = .next t →
    ((frameTick s).noise.len.counter = 0 → t.out.noise = 0 ∧ (s.cfg.timerRunsWhenSilent = false →
      t.noise.periodCounter = s.noise.periodCounter ∧ t.noise.lfsr = s.noise.lfsr)) ∧
    ((frameTick s).noise.len.counter ≠ 0 →
      t.out.noise = if s.noise.lfsr.toNat % 2 = 1 then volume (frameTick s).noise.env else 0) ∧
    ((frameTick s).noise.len.counter ≠ 0 ∨ s.cfg.timerRunsWhenSilent = true →
      (s.noise.periodCounter.toNat = 1 →
        t.noise.lfsr.toNat = s.noise.lfsr.toNat / 2 +
          2 ^ 14 * ((s.noise.lfsr.toNat + s.noise.lfsr.toNat / (if s.noise.shortMode then 2 ^ 6 else 2)) % 2) ∧
        s.cfg.tables.noisePeriod[s.noise.period.toNat]? = some t.noise.periodCounter) ∧
      (s.noise.periodCounter.toNat ≠ 1 → t.noise.periodCounter = s.noise.periodCounter - 1 ∧
        t.noise.lfsr = s.noise.lfsr))

/-- R232, R233, R72: the DMC in a tick. The level put out is that of before the tick; the timer never freezes; its
underflow moves the level by 2 in the direction of the current bit (bit 0 first, per the edge parameter) while a byte
is playing, moves the cursor, and when the cursor wraps takes the buffered byte or falls silent. -/
def Obligations.TickRunsTheDmc : Prop :=
  ∀ s t : State, exec .tick s = .next t →
    t.out.dmc = s.dmc.dacLatch ∧
    (s.dmc.periodCounter.toNat ≠ 1 → t.dmc.periodCounter = s.dmc.periodCounter - 1 ∧
      t.dmc.dacLatch = s.dmc.dacLatch ∧ t.dmc.bitCounter = s.dmc.bitCounter ∧ t.dmc.sample = s.dmc.sample ∧
      t.dmc.sampleValid = s.dmc.sampleValid ∧ t.dmc.dmaBufferValid = s.dmc.dmaBufferValid) ∧
    (s.dmc.periodCounter.toNat = 1 →
      s.cfg.tables.dmcPeriod[s.dmc.period.toNat]? = some t.dmc.periodCounter ∧
      t.dmc.bitCounter.toNat = (s.dmc.bitCounter.toNat + 1) % 8 ∧
      t.dmc.dacLatch = (if s.dmc.sampleValid then
        dacStep s.cfg.dacEdge (bit s.dmc.sample s.dmc.bitCounter.toNat) s.dmc.dacLatch else s.dmc.dacLatch) ∧
      (s.dmc.bitCounter.toNat ≠ 7 → t.dmc.sample = s.dmc.sample ∧ t.dmc.sampleValid = s.dmc.sampleValid ∧
        t.dmc.dmaBufferValid = s.dmc.dmaBufferValid) ∧
      (s.dmc.bitCounter.toNat = 7 → t.dmc.sampleValid = s.dmc.dmaBufferValid ∧ t.dmc.dmaBufferValid = false ∧
        t.dmc.sample = if s.dmc.dmaBufferValid then s.dmc.dmaBuffer else s.dmc.sample))

/-- R232, R234, R235, R236: a start delay that is not 0 goes down by one. A tick emits a request exactly if bytes remain,
none is outstanding, and either the start delay is found at 1 with the buffer empty, or the timer at 1 and the cursor at 7
with the buffer full. The request becomes outstanding, the buffer is empty after the tick, and the address is the bus
address of the read address; a tick that emits none leaves whether a request is outstanding. That the address is held
from then on, in a field of its own, is the model's choice (log 5). -/
def Obligations.TickRequestsAByteOnlyWhenOneIsNeeded : Prop :=
  ∀ s t : State, exec .tick s = .next t →
    t.dmc.dmaDelayCounter.toNat = s.dmc.dmaDelayCounter.toNat - 1 ∧
    (RequestNext s → t.dmaRequest = some (dmcBusAddr s.cfg s.dmc.readAddress) ∧ t.dmc.dmaOutstanding = true) ∧
    (¬RequestNext s → t.dmaRequest = none) ∧
    (∀ a, t.dmaRequest = some a → s.dmc.dmaOutstanding = false ∧ t.dmc.dmaOutstanding = true ∧
      s.dmc.lengthCounter ≠ 0 ∧ t.dmc.dmaBufferValid = false ∧ a = dmcBusAddr s.cfg s.dmc.readAddress ∧
      t.dmaAddress = a ∧ (s.cfg.busAddrExceptions = [] → a.toNat = 0x8000 + s.dmc.readAddress.toNat)) ∧
    (t.dmaRequest = none → t.dmc.dmaOutstanding = s.dmc.dmaOutstanding ∧ t.dmaAddress = s.dmaAddress)

/-- R136, R40: a length-exhausted channel: pulse and noise put out 0, the triangle's step and timer stay, and the status read
reports it inactive; and a pulse channel whose period check fails puts out 0 on that cycle. -/
def Obligations.ExhaustedOrMutedChannelsAreSilent : Prop :=
  (∀ s t : State, exec .tick s = .next t →
    ((frameTick s).p1.len.counter = 0 ∨ Muted (frameTick s).p1.sweep → t.out.p1 = 0) ∧
    ((frameTick s).p2.len.counter = 0 ∨ Muted (frameTick s).p2.sweep → t.out.p2 = 0) ∧
    ((frameTick s).noise.len.counter = 0 → t.out.noise = 0) ∧
    ((frameTick s).tri.len.counter = 0 →
      t.tri.stepCounter = s.tri.stepCounter ∧ t.tri.periodCounter = s.tri.periodCounter)) ∧
  (∀ (s t : State) (v : Byte), exec .rd4015 s = .next t → t.returned = some v →
    (s.p1.len.counter = 0 → bit v 0 = false) ∧ (s.p2.len.counter = 0 → bit v 1 = false) ∧
    (s.tri.len.counter = 0 → bit v 2 = false) ∧ (s.noise.len.counter = 0 → bit v 3 = false))

/-- R336: the length write race. In a cycle in which `lengthClocking()` is true, a load of an enabled channel is not
decremented by that tick's clock, and a halt that was set does not let that clock decrement although it is cleared by a
write; both land at the end of the tick. For all four channels. -/
def Obligations.LengthWritesInAHalfFrameCycleLandAfterTheClock : Prop :=
  ∀ (s : State) (d : Byte), HalfClockNext s →
    (∀ t u, exec (.wr4003 d) s = .next t → exec .tick t = .next u → s.p1.len.enable = true →
      s.cfg.lengthTable[bits d 7 3]? = some u.p1.len.counter) ∧
    (∀ t u, exec (.wr4007 d) s = .next t → exec .tick t = .next u → s.p2.len.enable = true →
      s.cfg.lengthTable[bits d 7 3]? = some u.p2.len.counter) ∧
    (∀ t u, exec (.wr400B d) s = .next t → exec .tick t = .next u → s.tri.len.enable = true →
      s.cfg.lengthTable[bits d 7 3]? = some u.tri.len.counter) ∧
    (∀ t u, exec (.wr400F d) s = .next t → exec .tick t = .next u → s.noise.len.enable = true →
      s.cfg.lengthTable[bits d 7 3]? = some u.noise.len.counter) ∧
    (∀ t u, exec (.wr4000 d) s = .next t → exec .tick t = .next u → s.p1.len.delayCounter = false →
      u.p1.len.halt = bit d 5 ∧ (s.p1.len.halt = true → u.p1.len.counter = s.p1.len.counter)) ∧
    (∀ t u, exec (.wr4004 d) s = .next t → exec .tick t = .next u → s.p2.len.delayCounter = false →
      u.p2.len.halt = bit d 5 ∧ (s.p2.len.halt = true → u.p2.len.counter = s.p2.len.counter)) ∧
    (∀ t u, exec (.wr4008 d) s = .next t → exec .tick t = .next u → s.tri.len.delayCounter = false →
      u.tri.len.halt = bit d 7 ∧ (s.tri.len.halt = true → u.tri.len.counter = s.tri.len.counter)) ∧
    (∀ t u, exec (.wr400C d) s = .next t → exec .tick t = .next u → s.noise.len.delayCounter = false →
      u.noise.len.halt = bit d 5 ∧ (s.noise.len.halt = true → u.noise.len.counter = s.noise.len.counter))

/-! ## Sub-units -/

/-- R135: the half-frame clock of a length counter: it goes down by one, never below 0, unless halted or disabled, and
nothing else changes. -/
def Obligations.LengthCounterCountsDownUnlessHalted : Prop :=
  ∀ l : LengthCounter, lengthMain l = { l with counter := (lengthMain l).counter } ∧
    (lengthMain l).counter.toNat =
      if l.enable = true ∧ l.halt = false then l.counter.toNat - 1 else l.counter.toNat

/-- R146: the quarter-frame clock of an envelope: a restart; a step of the volume and a reload of the divider when the
divider is found at 0 (wrapping to 15 in loop mode, else staying at 0); else the divider goes down. -/
def Obligations.EnvelopeClockDividesAndDecays : Prop :=
  ∀ e : Envelope,
    envelopeClock e = { e with
      decayCounter := (envelopeClock e).decayCounter, decayVolume := (envelopeClock e).decayVolume
      reloadDecay := false } ∧
    (envelopeClock e).decayCounter.toNat =
      (if e.reloadDecay = true ∨ e.decayCounter.toNat = 0 then e.speed.toNat else e.decayCounter.toNat - 1) ∧
    (envelopeClock e).decayVolume.toNat =
      (if e.reloadDecay = true then 15
       else if e.decayCounter.toNat ≠ 0 then e.decayVolume.toNat
       else if e.decayVolume.toNat ≠ 0 then e.decayVolume.toNat - 1
       else if e.loopMode = true then 15 else 0)

/-- R147: the volume of an envelope is its speed under constant volume, whatever the decay state and after any number
of clocks, and the decay volume otherwise. -/
def Obligations.ConstantVolumeIsTheSpeed : Prop :=
  ∀ (e : Envelope) (n : Nat),
    (e.useSpeedAsVolume = true → envelopeVolume (envelopeClock^[n] e) = e.speed) ∧
    (e.useSpeedAsVolume = false → envelopeVolume (envelopeClock^[n] e) = (envelopeClock^[n] e).decayVolume)

/-- R148, 90 C4: without constant volume and loop, the volume never rises from one clock to the next except on a clock
that finds a restart pending, which no clock leaves pending. -/
def Obligations.EnvelopeVolumeNeverRisesWithoutARestart : Prop :=
  ∀ (e : Envelope) (n : Nat), e.useSpeedAsVolume = false → e.loopMode = false → 0 < n ∨ e.reloadDecay = false →
    (envelopeVolume (envelopeClock^[n + 1] e)).toNat ≤ (envelopeVolume (envelopeClock^[n] e)).toNat

/-- R146, vector L2-ENV-5: from a pending restart without loop, the volume first reaches 0 with clock number
1 + 15 (speed + 1). -/
def Obligations.EnvelopeDecaysToZeroInItsTime : Prop :=
  ∀ (e : Envelope) (n : Nat), e.reloadDecay = true → e.loopMode = false → 0 < n →
    ((envelopeClock^[n] e).decayVolume = 0 ↔ 1 + 15 * (e.speed.toNat + 1) ≤ n)

/-- R155, R156, R157: the half-frame clock of a sweep. A due, enabled and shifting sweep whose channel is not muted
commits the target, which fits 11 bits; the divider reloads when found at 0 or told to, else goes down; nothing else
changes. -/
def Obligations.SweepClockCommitsAndDivides : Prop :=
  ∀ (ones : Bool) (w : Sweep),
    sweepClock ones w = { w with
      pulsePeriod := (sweepClock ones w).pulsePeriod, counter := (sweepClock ones w).counter, reload := false } ∧
    (w.counter.toNat = 0 ∧ w.enable = true ∧ w.shift.toNat > 0 ∧ ¬Muted w →
      (w.decrement = false → (sweepClock ones w).pulsePeriod.toNat =
        w.pulsePeriod.toNat + w.pulsePeriod.toNat / 2 ^ w.shift.toNat) ∧
      (w.decrement = true → (sweepClock ones w).pulsePeriod.toNat + w.pulsePeriod.toNat / 2 ^ w.shift.toNat +
        (if ones then 1 else 0) = w.pulsePeriod.toNat)) ∧
    (¬(w.counter.toNat = 0 ∧ w.enable = true ∧ w.shift.toNat > 0 ∧ ¬Muted w) →
      (sweepClock ones w).pulsePeriod = w.pulsePeriod) ∧
    (sweepClock ones w).counter.toNat =
      if w.counter.toNat = 0 ∨ w.reload = true then w.period.toNat else w.counter.toNat - 1

/-- R186: the quarter-frame clock of the linear counter: it reloads or goes down to 0 and stays; the reload flag is
cleared unless the control bit holds it; nothing else changes. -/
def Obligations.LinearCounterReloadsOrCountsDown : Prop :=
  ∀ t : Triangle,
    triClockLinear t = { t with
      linearLengthCounter := (triClockLinear t).linearLengthCounter, reloadLinear := (triClockLinear t).reloadLinear } ∧
    (triClockLinear t).linearLengthCounter.toNat =
      (if t.reloadLinear = true then t.linearLength.toNat else t.linearLengthCounter.toNat - 1) ∧
    ((triClockLinear t).reloadLinear = true ↔ t.reloadLinear = true ∧ t.len.halt = true)

/-- R233: a step of the DMC's level is 2 up or down; at the edges it is cut to 0 to 127, or left where it was, by the
edge parameter. -/
def Obligations.DacStepMovesByTwoWithinItsRange : Prop :=
  ∀ level : BitVec 7,
    (dacStep .clamp true level).toNat = min 127 (level.toNat + 2) ∧
    (dacStep .clamp false level).toNat = level.toNat - 2 ∧
    (dacStep .hold true level).toNat = (if level.toNat ≤ 125 then level.toNat + 2 else level.toNat) ∧
    (dacStep .hold false level).toNat = (if 2 ≤ level.toNat then level.toNat - 2 else level.toNat)

/-- R203: in long mode the shift register returns to any nonzero state after exactly 32767 steps and not before. -/
def Obligations.LongModeNoiseHasPeriod32767 : Prop :=
  ∀ x : BitVec 15, x ≠ 0 → (lfsrNext false)^[32767] x = x ∧
    ∀ k, 0 < k → k < 32767 → (lfsrNext false)^[k] x ≠ x

/-- R203, 90 C3: in short mode the shift register returns to its reset value 1 after exactly 93 steps and not before,
and no step in either mode takes a nonzero register to 0 (R201). -/
def Obligations.ShortModeNoiseHasPeriod93AndNeverDies : Prop :=
  ((lfsrNext true)^[93] 1 = 1 ∧ ∀ k, 0 < k → k < 93 → (lfsrNext true)^[k] 1 ≠ 1) ∧
  ∀ (short : Bool) (x : BitVec 15), lfsrNext short x = 0 → x = 0

/-! ## Timing laws -/

/-- R167, R188: the frequency laws. A running pulse timer that has just been reloaded steps the duty position once in
2 (period + 1) steps, and repeats after 16 (period + 1); a running triangle timer steps the staircase once in period + 1
steps, and repeats after 32 (period + 1). -/
def Obligations.PulseAndTriangleTimersKeepTheirFrequency : Prop :=
  (∀ p : Pulse, p.periodCounter.toNat = 2 * (p.sweep.pulsePeriod.toNat + 1) →
    (∀ n, n < 2 * (p.sweep.pulsePeriod.toNat + 1) → (pulseTimerStep^[n] p).dutyCounter = p.dutyCounter) ∧
    pulseTimerStep^[2 * (p.sweep.pulsePeriod.toNat + 1)] p = { p with dutyCounter := p.dutyCounter - 1 } ∧
    pulseTimerStep^[16 * (p.sweep.pulsePeriod.toNat + 1)] p = p) ∧
  (∀ t : Triangle, t.periodCounter.toNat = t.period.toNat + 1 →
    (∀ n, n < t.period.toNat + 1 → (triTimerStep^[n] t).stepCounter = t.stepCounter) ∧
    triTimerStep^[t.period.toNat + 1] t = { t with stepCounter := t.stepCounter + 1 } ∧
    triTimerStep^[32 * (t.period.toNat + 1)] t = t)

/-- R257, R252: with no reset pending, the counter is the number of ticks until its step fires: nothing of the
sequencer but the counter moves before, and with exactly that many ticks the next step (modulo 6) is entered with its
period of the mode, nothing else but the interrupt flag having changed; and from the start of a sequence the whole sequence
repeats after the sum of its mode's six periods. -/
def Obligations.FrameSequenceRepeatsAfterItsPeriods : Prop :=
  (∀ (s : State) (n : Nat), s.fs.delay = false → n < s.fs.counter.toNat →
    (ticks n s).fs = { s.fs with counter := s.fs.counter - BitVec.ofNat 16 n }) ∧
  (∀ s : State, s.fs.delay = false → s.fs.counter ≠ 0 →
    let t := ticks s.fs.counter.toNat s
    t.fs.step.toNat = (s.fs.step.toNat + 1) % 6 ∧ PeriodIs s.cfg s.fs.mode t.fs.step.toNat t.fs.counter ∧
    t.fs = { s.fs with step := t.fs.step, counter := t.fs.counter, irqPending := t.fs.irqPending }) ∧
  (∀ (s : State), s.cfg.tables.wf → s.fs.delay = false → s.fs.step = 0 → PeriodIs s.cfg s.fs.mode 0 s.fs.counter →
    let sum := ((if s.fs.mode then s.cfg.tables.framePeriod5 else s.cfg.tables.framePeriod4).toList.map
      BitVec.toNat).sum
    (ticks sum s).fs = { s.fs with irqPending := (ticks sum s).fs.irqPending })

/-- R333: after a reset, for any parameters, with nothing but ticks: pulse, noise and DMC put out 0 and the
triangle 15 on every tick. -/
def Obligations.AfterResetEveryChannelIsSilentAndTheTriangleHolds15 : Prop :=
  ∀ (c : Config) (n : Nat), (ticks (n + 1) (State.resetWith c)).out = ⟨0, 0, 15, 0, 0⟩

/-! ## Whole-machine rules -/

/-- R304, the complete list of what sets and clears the two interrupt flags, over all events. -/
def Obligations.InterruptFlagsChangeOnlyAsListed : Prop :=
  ∀ (i : Instr) (s t : State), exec i s = .next t →
    (s.fs.irqPending = false → t.fs.irqPending = true → i = .tick ∧ FrameIrqNext s) ∧
    (s.fs.irqPending = true → t.fs.irqPending = false →
      i = .rd4015 ∨ (∃ d, i = .wr4017 d ∧ bit d 6 = true) ∨ i = .power ∨ i = .reset) ∧
    (s.dmc.irqPending = false → t.dmc.irqPending = true →
      (∃ b, i = .dmaDeliver b) ∧ s.dmc.lengthCounter.toNat = 1 ∧ s.dmc.loopMode = false ∧
        s.dmc.irqEnable = true) ∧
    (s.dmc.irqPending = true → t.dmc.irqPending = false →
      (∃ d, i = .wr4015 d) ∨ (∃ d, i = .wr4010 d ∧ bit d 7 = false) ∨ i = .power ∨ i = .reset)

/-- R303: the enables. With the inhibit set no event sets the frame flag, with it clear an interrupt step of the 4-step
mode sets it; with the DMC's enable clear no event sets its flag, with it set the end of a sample that does not loop
sets it. No other state masks either. -/
def Obligations.InterruptEnablesMaskTheFlags : Prop :=
  (∀ (i : Instr) (s t : State), exec i s = .next t →
    (s.fs.irqInhibit = true → t.fs.irqPending = true → s.fs.irqPending = true) ∧
    (s.dmc.irqEnable = false → t.dmc.irqPending = true → s.dmc.irqPending = true)) ∧
  (∀ s t : State, exec .tick s = .next t → s.fs.irqInhibit = false → StepNext s → s.fs.mode = false →
    InSteps s.cfg.irqSteps s.fs.step → t.fs.irqPending = true) ∧
  (∀ (b : Byte) (s t : State), exec (.dmaDeliver b) s = .next t → s.dmc.irqEnable = true →
    s.dmc.lengthCounter.toNat = 1 → s.dmc.loopMode = false → t.dmc.irqPending = true)

/-- R33, R38, R235, R302, R201, R30: every step keeps the invariant of the machine, from every state that has it:
the step is at most 5 and the frame counter and the timers are not 0, a disabled length counter is 0 with nothing
buffered, a request is outstanding only with the buffer empty, the shift register is not 0, and the line is the OR of
the two flags. -/
def Obligations.EveryStepKeepsTheInvariant : Prop :=
  ∀ s t : State, s.Inv → step s = .next t → t.Inv

/-- R330, D28: the reset state has the invariant for all legal parameters, and the default parameters of either region
are legal. That `State.reset` takes the default parameters of NTSC is the model's choice (log 2). -/
def Obligations.ResetStateHasTheInvariant : Prop :=
  (∀ c : Config, c.wf → (State.resetWith c).Inv) ∧ (∀ r : Region, (defaultConfigFor r).wf) ∧ State.reset.Inv

/-- R315, R300, R120: a step completes whenever its next event is a legal word and, if a delivery, one that is
expected. -/
def Obligations.DutifulEventsAlwaysComplete : Prop :=
  ∀ s : State, s.dutifulNext → ∃ t, step s = .next t

/-- R34, R278, R330: no step changes the parameters of R7, and every step that completes takes exactly one event from
the run. -/
def Obligations.EveryStepKeepsTheParametersAndTakesOneEvent : Prop :=
  ∀ s t : State, step s = .next t → t.cfg = s.cfg ∧ ∃ e, s.inputs = e :: t.inputs

/-- R237: the DMC's timing does not wait for a delivery: of two machines with the same parameters, rate, timer and
cursor, whatever else differs, a tick leaves the same timer and cursor; and a delivery leaves timer, cursor, level and
the byte being played. -/
def Obligations.DmcTimingIgnoresDeliveries : Prop :=
  (∀ s₁ s₂ t₁ t₂ : State, s₁.cfg = s₂.cfg → s₁.dmc.period = s₂.dmc.period →
    s₁.dmc.periodCounter = s₂.dmc.periodCounter → s₁.dmc.bitCounter = s₂.dmc.bitCounter →
    exec .tick s₁ = .next t₁ → exec .tick s₂ = .next t₂ →
    t₁.dmc.periodCounter = t₂.dmc.periodCounter ∧ t₁.dmc.bitCounter = t₂.dmc.bitCounter) ∧
  (∀ (b : Byte) (s t : State), exec (.dmaDeliver b) s = .next t →
    t.dmc.periodCounter = s.dmc.periodCounter ∧ t.dmc.bitCounter = s.dmc.bitCounter ∧
    t.dmc.dacLatch = s.dmc.dacLatch ∧ t.dmc.sample = s.dmc.sample ∧ t.dmc.sampleValid = s.dmc.sampleValid)

/-- R239: a start with length latch 0 gives one byte; delivering it without loop makes the channel idle and sets the
interrupt flag if enabled; and while idle a tick requests nothing. -/
def Obligations.OneByteSampleEndsIdleAndInterruptsOnce : Prop :=
  (∀ (d : Byte) (s t : State), exec (.wr4015 d) s = .next t → bit d 4 = true → s.dmc.lengthCounter = 0 →
    s.dmc.lengthLatch = 0 → t.dmc.lengthCounter.toNat = 1) ∧
  (∀ (b : Byte) (s t : State), exec (.dmaDeliver b) s = .next t → s.dmc.lengthCounter.toNat = 1 →
    s.dmc.loopMode = false →
    t.dmc.lengthCounter = 0 ∧ t.dmc.irqPending = (s.dmc.irqPending || s.dmc.irqEnable)) ∧
  (∀ (s : State) (n : Nat), s.dmc.lengthCounter = 0 →
    (ticks (n + 1) s).dmaRequest = none ∧ (ticks (n + 1) s).dmc.irqPending = s.dmc.irqPending ∧
    (ticks (n + 1) s).dmc.lengthCounter = 0)

/-- R316, R315, R10: the responder answers the request that is outstanding: the address of a request stays until it is
delivered or a reset, whatever events come between; and when the responder answers with the byte its memory has there,
an expected delivery puts that byte into the buffer. That the address is held in a field of its own is the model's
choice (log 5). -/
def Obligations.ResponderDeliversTheByteAtTheRequestedAddress : Prop :=
  (∀ (i : Instr) (s t : State), exec i s = .next t → s.dmc.dmaOutstanding = true → t.dmc.dmaOutstanding = true →
    t.dmaAddress = s.dmaAddress) ∧
  (∀ (mem : BusAddr → Byte) (s : State) (e : Input) (rest : List Input), s.inputs = e :: rest →
    responderWord mem s = some e.word → s.dmc.lengthCounter ≠ 0 →
    ∃ t, step s = .next t ∧ t.dmc.dmaBuffer = mem s.dmaAddress ∧ t.dmc.dmaBufferValid = true ∧
      t.dmc.dmaOutstanding = false)

/-- R41: every register and counter field makes the round trip through the save-state boundary, and restoring a
machine's own save changes nothing where the line is the OR of the flags. That a restore recomputes the line and leaves
the parameters and all else that the save does not carry is the model's choice (log 11). -/
def Obligations.SaveStateRoundTrips : Prop :=
  (∀ (x : SaveState) (s : State), save (restore x s) = x ∧ (restore x s).cfg = s.cfg ∧
    (restore x s).LineIsFlags) ∧
  (∀ s : State, s.LineIsFlags → restore (save s) s = s)
end

