-- ==== Sys2Proof/Laws/Decode.lean ====
section
/-! SUPPORT. The fields of an event word and of an assembled one, and decoding an encoded event. -/

namespace Sys2Proof

@[simp] theorem eventKind_eventWord (k : BitVec 2) (wr : Bool) (a : BusAddr) (d : Byte) :
    eventKind (eventWord k wr a d) = k := by
  apply BitVec.eq_of_getLsbD_eq
  intro i hi
  simp only [eventKind, eventWord, BitVec.getLsbD_extractLsb', BitVec.getLsbD_append, hi, decide_true, Bool.true_and]
  have h1 : ¬ (25 + i < 1 + (16 + 8)) := by omega
  simp [h1]

@[simp] theorem eventWrite_eventWord (k : BitVec 2) (wr : Bool) (a : BusAddr) (d : Byte) :
    eventWrite (eventWord k wr a d) = wr := by
  simp only [eventWrite, eventWord, BitVec.getLsbD_append]
  simp

@[simp] theorem eventAddr_eventWord (k : BitVec 2) (wr : Bool) (a : BusAddr) (d : Byte) :
    eventAddr (eventWord k wr a d) = a := by
  apply BitVec.eq_of_getLsbD_eq
  intro i hi
  have h1 : 8 + i < 25 := by omega
  have h2 : 8 + i < 24 := by omega
  simp only [eventAddr, eventWord, BitVec.getLsbD_extractLsb', BitVec.getLsbD_append]
  simp [hi, h1, h2]

@[simp] theorem eventData_eventWord (k : BitVec 2) (wr : Bool) (a : BusAddr) (d : Byte) :
    eventData (eventWord k wr a d) = d := by
  apply BitVec.eq_of_getLsbD_eq
  intro i hi
  have h1 : i < 25 := by omega
  have h2 : i < 24 := by omega
  simp only [eventData, eventWord, BitVec.getLsbD_extractLsb', BitVec.getLsbD_append]
  simp [hi, h1, h2]

/-- Every word is the one assembled from its fields: R90 leaves no bit out. -/
theorem eventWord_fields (w : EventWord) :
    eventWord (eventKind w) (eventWrite w) (eventAddr w) (eventData w) = w := by
  apply BitVec.eq_of_getLsbD_eq
  intro i hi
  simp only [eventKind, eventWrite, eventAddr, eventData, eventWord, BitVec.getLsbD_append, BitVec.getLsbD_extractLsb',
    BitVec.getLsbD_ofBool]
  by_cases h8 : i < 8
  · have h1 : i < 25 := by omega
    have h2 : i < 24 := by omega
    simp [h8, h1, h2]
  · by_cases h24 : i < 24
    · have h1 : i < 25 := by omega
      have h3 : i - 8 < 16 := by omega
      simp [h8, h24, h1, h3, show 8 + (i - 8) = i by omega]
    · by_cases h25 : i < 25
      · have h3 : i = 24 := by omega
        subst h3; simp
      · have h3 : i - 25 < 2 := by omega
        simp [h25, h3, show 25 + (i - 25) = i by omega]

/-- Words with the same fields are equal. -/
theorem eq_eventWord {w : EventWord} {k : BitVec 2} {wr : Bool} {a : BusAddr} {d : Byte} (hk : eventKind w = k)
    (hw : eventWrite w = wr) (ha : eventAddr w = a) (hd : eventData w = d) : w = eventWord k wr a d := by
  rw [← eventWord_fields w, hk, hw, ha, hd]

/-- A write word decodes by its address. -/
theorem decode_writeWord (a : BusAddr) (d : Byte) : decode (writeWord a d) = decodeWrite a d := by
  simp [decode, writeWord]

/-- A read word decodes by its address. -/
theorem decode_readWord (a : BusAddr) : decode (readWord a) = decodeRead a := by
  simp [decode, readWord]

end Sys2Proof
end

