-- ==== Sys2Proof/Laws/Operands.lean ====
section
/-! SUPPORT. Each operand field as a number, and the reads of the tables. -/

namespace Sys2Proof.Machine

theorem dutyField_toNat (d : Byte) : (dutyField d).toNat = d.toNat / 64 % 4 := by
  simp [dutyField, BitVec.extractLsb'_toNat, Nat.shiftRight_eq_div_pow]

theorem speedField_toNat (d : Byte) : (speedField d).toNat = d.toNat % 16 := by
  simp [speedField, BitVec.extractLsb'_toNat]

theorem sweepPeriodField_toNat (d : Byte) : (sweepPeriodField d).toNat = d.toNat / 16 % 8 := by
  simp [sweepPeriodField, BitVec.extractLsb'_toNat, Nat.shiftRight_eq_div_pow]

theorem sweepShiftField_toNat (d : Byte) : (sweepShiftField d).toNat = d.toNat % 8 := by
  simp [sweepShiftField, BitVec.extractLsb'_toNat]

theorem lengthIndexField_toNat (d : Byte) : (lengthIndexField d).toNat = d.toNat / 8 % 32 := by
  simp [lengthIndexField, BitVec.extractLsb'_toNat, Nat.shiftRight_eq_div_pow]

theorem linearLengthField_toNat (d : Byte) : (linearLengthField d).toNat = d.toNat % 128 := by
  simp [linearLengthField, BitVec.extractLsb'_toNat]

theorem periodIndexField_toNat (d : Byte) : (periodIndexField d).toNat = d.toNat % 16 := by
  simp [periodIndexField, BitVec.extractLsb'_toNat]

theorem dacField_toNat (d : Byte) : (dacField d).toNat = d.toNat % 128 := by
  simp [dacField, BitVec.extractLsb'_toNat]

/-- A bit of a byte as a number. -/
theorem getLsbD_eq_div (d : Byte) (n : Nat) : d.getLsbD n = (d.toNat / 2 ^ n % 2 == 1) := by
  rw [BitVec.getLsbD, Nat.testBit_eq_decide_div_mod_eq]
  simp [beq_eq_decide]

theorem withPeriodLow_toNat (p : BitVec 11) (d : Byte) :
    (withPeriodLow p d).toNat = p.toNat / 256 * 256 + d.toNat := by
  have hp := p.isLt
  have hd := d.isLt
  rw [withPeriodLow, BitVec.toNat_append, BitVec.extractLsb'_toNat, ← Nat.shiftLeft_add_eq_or_of_lt hd,
    Nat.shiftLeft_eq, Nat.shiftRight_eq_div_pow]
  omega

theorem withPeriodHigh_toNat (p : BitVec 11) (d : Byte) :
    (withPeriodHigh p d).toNat = d.toNat % 8 * 256 + p.toNat % 256 := by
  rw [withPeriodHigh, BitVec.toNat_append, BitVec.extractLsb'_toNat, BitVec.extractLsb'_toNat,
    ← Nat.shiftLeft_add_eq_or_of_lt (Nat.mod_lt _ (by decide)), Nat.shiftLeft_eq]
  simp

theorem dmcStartAddress_toNat (l : BitVec 8) : (dmcStartAddress l).toNat = 0x4000 + l.toNat * 64 := by
  have := l.isLt
  simp only [dmcStartAddress, BitVec.toNat_add, BitVec.toNat_shiftLeft, BitVec.toNat_setWidth, Nat.shiftLeft_eq]
  simp
  omega

theorem dmcStartLength_toNat (l : BitVec 8) : (dmcStartLength l).toNat = l.toNat * 16 + 1 := by
  have := l.isLt
  simp only [dmcStartLength, BitVec.toNat_add, BitVec.toNat_shiftLeft, BitVec.toNat_setWidth, Nat.shiftLeft_eq]
  simp
  omega

/-- R236: the default bus address is the read address with bit 15 set. -/
theorem dmcBusAddr_default (c : Config) (a : BitVec 15) (h : c.busAddrExceptions = []) :
    (dmcBusAddr c a).toNat = 0x8000 + a.toNat := by
  have ha : a.toNat < 2 ^ 15 := a.isLt
  have e : (0x8000 : Nat) = 1 <<< 15 := rfl
  simp only [dmcBusAddr, h, List.lookup, Option.getD_none, BitVec.toNat_or, BitVec.toNat_setWidth]
  rw [Nat.mod_eq_of_lt (by omega), show BitVec.toNat (0x8000 : BusAddr) = 1 <<< 15 from rfl, e,
    ← Nat.shiftLeft_add_eq_or_of_lt ha]

theorem lengthEntry_eq (c : Config) (i : BitVec 5) : c.lengthTable[i.toNat]? = some (lengthEntry c i) := by
  rw [lengthEntry, Vector.getElem?_eq_getElem]

theorem noiseReload_eq (c : Config) (i : BitVec 4) : c.tables.noisePeriod[i.toNat]? = some (noiseReload c i) := by
  rw [noiseReload, Vector.getElem?_eq_getElem]

theorem dmcReload_eq (c : Config) (i : BitVec 4) : c.tables.dmcPeriod[i.toNat]? = some (dmcReload c i) := by
  rw [dmcReload, Vector.getElem?_eq_getElem]

/-- A step is in a set of steps exactly if the table says so at its place. -/
theorem stepIn_iff (t : Vector Bool 6) (k : BitVec 3) : stepIn t k = true ↔ t[k.toNat]? = some true := by
  by_cases h : k.toNat < 6 <;> simp [stepIn, h]

/-- Where the tables are legal no reload is 0 (R250, D28). -/
theorem noiseReload_ne_zero (c : Config) (h : c.wf) (i : BitVec 4) : noiseReload c i ≠ 0 := h.1.1 ⟨i.toNat, i.isLt⟩

theorem dmcReload_ne_zero (c : Config) (h : c.wf) (i : BitVec 4) : dmcReload c i ≠ 0 := h.1.2.1 ⟨i.toNat, i.isLt⟩

theorem framePeriod_ne_zero (c : Config) (h : c.wf) (m : Bool) (k : BitVec 3) : framePeriod c m k ≠ 0 := by
  cases m
  · exact h.1.2.2.1 ⟨k.toNat % 6, Nat.mod_lt _ (by decide)⟩
  · exact h.1.2.2.2 ⟨k.toNat % 6, Nat.mod_lt _ (by decide)⟩

/-- R165: where the parameters are legal, the waveform of a duty is high in as many positions as the duty asks. -/
theorem dutyTable_count (c : Config) (h : c.wf) (d : BitVec 2) :
    (c.dutyTable[d.toNat]'d.isLt).toList.count true = dutyOnes[d.toNat]'d.isLt := h.2 ⟨d.toNat, d.isLt⟩

/-- The frame period of a step 0 to 5 is the table's entry. -/
theorem framePeriod_eq (c : Config) (m : Bool) (k : BitVec 3) (h : k.toNat < 6) :
    (if m then c.tables.framePeriod5 else c.tables.framePeriod4)[k.toNat]? = some (framePeriod c m k) := by
  have e : k.toNat % 6 = k.toNat := Nat.mod_eq_of_lt h
  simp only [framePeriod, e]
  rw [Vector.getElem?_eq_getElem h]

end Sys2Proof.Machine
end

