-- ==== Sys2Proof/Laws/State.lean ====
section
/-! SUPPORT. One lemma a field and update of the state, so that no proof unfolds a record update. -/

namespace Sys2Proof.Machine

@[simp] theorem State.withTri_cfg (s : State) (t : Triangle) : (s.withTri t).cfg = s.cfg := rfl
@[simp] theorem State.withTri_inputs (s : State) (t : Triangle) : (s.withTri t).inputs = s.inputs := rfl
@[simp] theorem State.withTri_draws (s : State) (t : Triangle) : (s.withTri t).draws = s.draws := rfl
@[simp] theorem State.withTri_eventCount (s : State) (t : Triangle) : (s.withTri t).eventCount = s.eventCount := rfl
@[simp] theorem State.withTri_returned (s : State) (t : Triangle) : (s.withTri t).returned = s.returned := rfl
@[simp] theorem State.withTri_p1 (s : State) (t : Triangle) : (s.withTri t).p1 = s.p1 := rfl
@[simp] theorem State.withTri_p2 (s : State) (t : Triangle) : (s.withTri t).p2 = s.p2 := rfl
@[simp] theorem State.withTri_tri (s : State) (t : Triangle) : (s.withTri t).tri = t := rfl
@[simp] theorem State.withTri_noise (s : State) (t : Triangle) : (s.withTri t).noise = s.noise := rfl
@[simp] theorem State.withTri_dmc (s : State) (t : Triangle) : (s.withTri t).dmc = s.dmc := rfl
@[simp] theorem State.withTri_fs (s : State) (t : Triangle) : (s.withTri t).fs = s.fs := rfl
@[simp] theorem State.withTri_out (s : State) (t : Triangle) : (s.withTri t).out = s.out := rfl
@[simp] theorem State.withTri_irq (s : State) (t : Triangle) : (s.withTri t).irq = s.irq := rfl
@[simp] theorem State.withTri_dmaRequest (s : State) (t : Triangle) : (s.withTri t).dmaRequest = s.dmaRequest := rfl
@[simp] theorem State.withTri_dmaAddress (s : State) (t : Triangle) : (s.withTri t).dmaAddress = s.dmaAddress := rfl

@[simp] theorem State.withNoise_cfg (s : State) (n : Noise) : (s.withNoise n).cfg = s.cfg := rfl
@[simp] theorem State.withNoise_inputs (s : State) (n : Noise) : (s.withNoise n).inputs = s.inputs := rfl
@[simp] theorem State.withNoise_draws (s : State) (n : Noise) : (s.withNoise n).draws = s.draws := rfl
@[simp] theorem State.withNoise_eventCount (s : State) (n : Noise) : (s.withNoise n).eventCount = s.eventCount := rfl
@[simp] theorem State.withNoise_returned (s : State) (n : Noise) : (s.withNoise n).returned = s.returned := rfl
@[simp] theorem State.withNoise_p1 (s : State) (n : Noise) : (s.withNoise n).p1 = s.p1 := rfl
@[simp] theorem State.withNoise_p2 (s : State) (n : Noise) : (s.withNoise n).p2 = s.p2 := rfl
@[simp] theorem State.withNoise_tri (s : State) (n : Noise) : (s.withNoise n).tri = s.tri := rfl
@[simp] theorem State.withNoise_noise (s : State) (n : Noise) : (s.withNoise n).noise = n := rfl
@[simp] theorem State.withNoise_dmc (s : State) (n : Noise) : (s.withNoise n).dmc = s.dmc := rfl
@[simp] theorem State.withNoise_fs (s : State) (n : Noise) : (s.withNoise n).fs = s.fs := rfl
@[simp] theorem State.withNoise_out (s : State) (n : Noise) : (s.withNoise n).out = s.out := rfl
@[simp] theorem State.withNoise_irq (s : State) (n : Noise) : (s.withNoise n).irq = s.irq := rfl
@[simp] theorem State.withNoise_dmaRequest (s : State) (n : Noise) : (s.withNoise n).dmaRequest = s.dmaRequest := rfl
@[simp] theorem State.withNoise_dmaAddress (s : State) (n : Noise) : (s.withNoise n).dmaAddress = s.dmaAddress := rfl

@[simp] theorem State.withDmc_cfg (s : State) (d : Dmc) : (s.withDmc d).cfg = s.cfg := rfl
@[simp] theorem State.withDmc_inputs (s : State) (d : Dmc) : (s.withDmc d).inputs = s.inputs := rfl
@[simp] theorem State.withDmc_draws (s : State) (d : Dmc) : (s.withDmc d).draws = s.draws := rfl
@[simp] theorem State.withDmc_eventCount (s : State) (d : Dmc) : (s.withDmc d).eventCount = s.eventCount := rfl
@[simp] theorem State.withDmc_returned (s : State) (d : Dmc) : (s.withDmc d).returned = s.returned := rfl
@[simp] theorem State.withDmc_p1 (s : State) (d : Dmc) : (s.withDmc d).p1 = s.p1 := rfl
@[simp] theorem State.withDmc_p2 (s : State) (d : Dmc) : (s.withDmc d).p2 = s.p2 := rfl
@[simp] theorem State.withDmc_tri (s : State) (d : Dmc) : (s.withDmc d).tri = s.tri := rfl
@[simp] theorem State.withDmc_noise (s : State) (d : Dmc) : (s.withDmc d).noise = s.noise := rfl
@[simp] theorem State.withDmc_dmc (s : State) (d : Dmc) : (s.withDmc d).dmc = d := rfl
@[simp] theorem State.withDmc_fs (s : State) (d : Dmc) : (s.withDmc d).fs = s.fs := rfl
@[simp] theorem State.withDmc_out (s : State) (d : Dmc) : (s.withDmc d).out = s.out := rfl
@[simp] theorem State.withDmc_irq (s : State) (d : Dmc) : (s.withDmc d).irq = s.irq := rfl
@[simp] theorem State.withDmc_dmaRequest (s : State) (d : Dmc) : (s.withDmc d).dmaRequest = s.dmaRequest := rfl
@[simp] theorem State.withDmc_dmaAddress (s : State) (d : Dmc) : (s.withDmc d).dmaAddress = s.dmaAddress := rfl

@[simp] theorem State.withFs_cfg (s : State) (f : FrameSequencer) : (s.withFs f).cfg = s.cfg := rfl
@[simp] theorem State.withFs_inputs (s : State) (f : FrameSequencer) : (s.withFs f).inputs = s.inputs := rfl
@[simp] theorem State.withFs_draws (s : State) (f : FrameSequencer) : (s.withFs f).draws = s.draws := rfl
@[simp] theorem State.withFs_eventCount (s : State) (f : FrameSequencer) : (s.withFs f).eventCount = s.eventCount := rfl
@[simp] theorem State.withFs_returned (s : State) (f : FrameSequencer) : (s.withFs f).returned = s.returned := rfl
@[simp] theorem State.withFs_p1 (s : State) (f : FrameSequencer) : (s.withFs f).p1 = s.p1 := rfl
@[simp] theorem State.withFs_p2 (s : State) (f : FrameSequencer) : (s.withFs f).p2 = s.p2 := rfl
@[simp] theorem State.withFs_tri (s : State) (f : FrameSequencer) : (s.withFs f).tri = s.tri := rfl
@[simp] theorem State.withFs_noise (s : State) (f : FrameSequencer) : (s.withFs f).noise = s.noise := rfl
@[simp] theorem State.withFs_dmc (s : State) (f : FrameSequencer) : (s.withFs f).dmc = s.dmc := rfl
@[simp] theorem State.withFs_fs (s : State) (f : FrameSequencer) : (s.withFs f).fs = f := rfl
@[simp] theorem State.withFs_out (s : State) (f : FrameSequencer) : (s.withFs f).out = s.out := rfl
@[simp] theorem State.withFs_irq (s : State) (f : FrameSequencer) : (s.withFs f).irq = s.irq := rfl
@[simp] theorem State.withFs_dmaRequest (s : State) (f : FrameSequencer) : (s.withFs f).dmaRequest = s.dmaRequest := rfl
@[simp] theorem State.withFs_dmaAddress (s : State) (f : FrameSequencer) : (s.withFs f).dmaAddress = s.dmaAddress := rfl

@[simp] theorem State.withOut_cfg (s : State) (o : Outputs) : (s.withOut o).cfg = s.cfg := rfl
@[simp] theorem State.withOut_inputs (s : State) (o : Outputs) : (s.withOut o).inputs = s.inputs := rfl
@[simp] theorem State.withOut_draws (s : State) (o : Outputs) : (s.withOut o).draws = s.draws := rfl
@[simp] theorem State.withOut_eventCount (s : State) (o : Outputs) : (s.withOut o).eventCount = s.eventCount := rfl
@[simp] theorem State.withOut_returned (s : State) (o : Outputs) : (s.withOut o).returned = s.returned := rfl
@[simp] theorem State.withOut_p1 (s : State) (o : Outputs) : (s.withOut o).p1 = s.p1 := rfl
@[simp] theorem State.withOut_p2 (s : State) (o : Outputs) : (s.withOut o).p2 = s.p2 := rfl
@[simp] theorem State.withOut_tri (s : State) (o : Outputs) : (s.withOut o).tri = s.tri := rfl
@[simp] theorem State.withOut_noise (s : State) (o : Outputs) : (s.withOut o).noise = s.noise := rfl
@[simp] theorem State.withOut_dmc (s : State) (o : Outputs) : (s.withOut o).dmc = s.dmc := rfl
@[simp] theorem State.withOut_fs (s : State) (o : Outputs) : (s.withOut o).fs = s.fs := rfl
@[simp] theorem State.withOut_out (s : State) (o : Outputs) : (s.withOut o).out = o := rfl
@[simp] theorem State.withOut_irq (s : State) (o : Outputs) : (s.withOut o).irq = s.irq := rfl
@[simp] theorem State.withOut_dmaRequest (s : State) (o : Outputs) : (s.withOut o).dmaRequest = s.dmaRequest := rfl
@[simp] theorem State.withOut_dmaAddress (s : State) (o : Outputs) : (s.withOut o).dmaAddress = s.dmaAddress := rfl

@[simp] theorem State.withPulse_p1_p1 (s : State) (p : Pulse) : (s.withPulse .p1 p).p1 = p := rfl
@[simp] theorem State.withPulse_p1_p2 (s : State) (p : Pulse) : (s.withPulse .p1 p).p2 = s.p2 := rfl
@[simp] theorem State.withPulse_p2_p1 (s : State) (p : Pulse) : (s.withPulse .p2 p).p1 = s.p1 := rfl
@[simp] theorem State.withPulse_p2_p2 (s : State) (p : Pulse) : (s.withPulse .p2 p).p2 = p := rfl

@[simp] theorem State.withPulse_cfg (s : State) (ch : PulseId) (p : Pulse) : (s.withPulse ch p).cfg = s.cfg := by cases ch <;> rfl
@[simp] theorem State.withPulse_inputs (s : State) (ch : PulseId) (p : Pulse) : (s.withPulse ch p).inputs = s.inputs := by cases ch <;> rfl
@[simp] theorem State.withPulse_draws (s : State) (ch : PulseId) (p : Pulse) : (s.withPulse ch p).draws = s.draws := by cases ch <;> rfl
@[simp] theorem State.withPulse_eventCount (s : State) (ch : PulseId) (p : Pulse) : (s.withPulse ch p).eventCount = s.eventCount := by cases ch <;> rfl
@[simp] theorem State.withPulse_returned (s : State) (ch : PulseId) (p : Pulse) : (s.withPulse ch p).returned = s.returned := by cases ch <;> rfl
@[simp] theorem State.withPulse_tri (s : State) (ch : PulseId) (p : Pulse) : (s.withPulse ch p).tri = s.tri := by cases ch <;> rfl
@[simp] theorem State.withPulse_noise (s : State) (ch : PulseId) (p : Pulse) : (s.withPulse ch p).noise = s.noise := by cases ch <;> rfl
@[simp] theorem State.withPulse_dmc (s : State) (ch : PulseId) (p : Pulse) : (s.withPulse ch p).dmc = s.dmc := by cases ch <;> rfl
@[simp] theorem State.withPulse_fs (s : State) (ch : PulseId) (p : Pulse) : (s.withPulse ch p).fs = s.fs := by cases ch <;> rfl
@[simp] theorem State.withPulse_out (s : State) (ch : PulseId) (p : Pulse) : (s.withPulse ch p).out = s.out := by cases ch <;> rfl
@[simp] theorem State.withPulse_irq (s : State) (ch : PulseId) (p : Pulse) : (s.withPulse ch p).irq = s.irq := by cases ch <;> rfl
@[simp] theorem State.withPulse_dmaRequest (s : State) (ch : PulseId) (p : Pulse) : (s.withPulse ch p).dmaRequest = s.dmaRequest := by cases ch <;> rfl
@[simp] theorem State.withPulse_dmaAddress (s : State) (ch : PulseId) (p : Pulse) : (s.withPulse ch p).dmaAddress = s.dmaAddress := by cases ch <;> rfl

@[simp] theorem State.pulse_p1 (s : State) : s.pulse .p1 = s.p1 := rfl
@[simp] theorem State.pulse_p2 (s : State) : s.pulse .p2 = s.p2 := rfl
@[simp] theorem State.withPulse_pulse (s : State) (ch : PulseId) (p : Pulse) : (s.withPulse ch p).pulse ch = p := by cases ch <;> rfl

@[simp] theorem updateIrq_cfg (s : State) : (updateIrq s).cfg = s.cfg := rfl
@[simp] theorem updateIrq_inputs (s : State) : (updateIrq s).inputs = s.inputs := rfl
@[simp] theorem updateIrq_draws (s : State) : (updateIrq s).draws = s.draws := rfl
@[simp] theorem updateIrq_eventCount (s : State) : (updateIrq s).eventCount = s.eventCount := rfl
@[simp] theorem updateIrq_returned (s : State) : (updateIrq s).returned = s.returned := rfl
@[simp] theorem updateIrq_p1 (s : State) : (updateIrq s).p1 = s.p1 := rfl
@[simp] theorem updateIrq_p2 (s : State) : (updateIrq s).p2 = s.p2 := rfl
@[simp] theorem updateIrq_tri (s : State) : (updateIrq s).tri = s.tri := rfl
@[simp] theorem updateIrq_noise (s : State) : (updateIrq s).noise = s.noise := rfl
@[simp] theorem updateIrq_dmc (s : State) : (updateIrq s).dmc = s.dmc := rfl
@[simp] theorem updateIrq_fs (s : State) : (updateIrq s).fs = s.fs := rfl
@[simp] theorem updateIrq_out (s : State) : (updateIrq s).out = s.out := rfl
@[simp] theorem updateIrq_irq (s : State) : (updateIrq s).irq = (s.fs.irqPending || s.dmc.irqPending) := rfl
@[simp] theorem updateIrq_dmaRequest (s : State) : (updateIrq s).dmaRequest = s.dmaRequest := rfl
@[simp] theorem updateIrq_dmaAddress (s : State) : (updateIrq s).dmaAddress = s.dmaAddress := rfl

@[simp] theorem returnByte_cfg (v : Byte) (s : State) : (returnByte v s).cfg = s.cfg := rfl
@[simp] theorem returnByte_inputs (v : Byte) (s : State) : (returnByte v s).inputs = s.inputs := rfl
@[simp] theorem returnByte_draws (v : Byte) (s : State) : (returnByte v s).draws = s.draws := rfl
@[simp] theorem returnByte_eventCount (v : Byte) (s : State) : (returnByte v s).eventCount = s.eventCount := rfl
@[simp] theorem returnByte_returned (v : Byte) (s : State) : (returnByte v s).returned = some v := rfl
@[simp] theorem returnByte_p1 (v : Byte) (s : State) : (returnByte v s).p1 = s.p1 := rfl
@[simp] theorem returnByte_p2 (v : Byte) (s : State) : (returnByte v s).p2 = s.p2 := rfl
@[simp] theorem returnByte_tri (v : Byte) (s : State) : (returnByte v s).tri = s.tri := rfl
@[simp] theorem returnByte_noise (v : Byte) (s : State) : (returnByte v s).noise = s.noise := rfl
@[simp] theorem returnByte_dmc (v : Byte) (s : State) : (returnByte v s).dmc = s.dmc := rfl
@[simp] theorem returnByte_fs (v : Byte) (s : State) : (returnByte v s).fs = s.fs := rfl
@[simp] theorem returnByte_out (v : Byte) (s : State) : (returnByte v s).out = s.out := rfl
@[simp] theorem returnByte_irq (v : Byte) (s : State) : (returnByte v s).irq = s.irq := rfl
@[simp] theorem returnByte_dmaRequest (v : Byte) (s : State) : (returnByte v s).dmaRequest = s.dmaRequest := rfl
@[simp] theorem returnByte_dmaAddress (v : Byte) (s : State) : (returnByte v s).dmaAddress = s.dmaAddress := rfl

@[simp] theorem setFrameIrq_cfg (s : State) : (setFrameIrq s).cfg = s.cfg := rfl
@[simp] theorem setFrameIrq_inputs (s : State) : (setFrameIrq s).inputs = s.inputs := rfl
@[simp] theorem setFrameIrq_draws (s : State) : (setFrameIrq s).draws = s.draws := rfl
@[simp] theorem setFrameIrq_eventCount (s : State) : (setFrameIrq s).eventCount = s.eventCount := rfl
@[simp] theorem setFrameIrq_returned (s : State) : (setFrameIrq s).returned = s.returned := rfl
@[simp] theorem setFrameIrq_p1 (s : State) : (setFrameIrq s).p1 = s.p1 := rfl
@[simp] theorem setFrameIrq_p2 (s : State) : (setFrameIrq s).p2 = s.p2 := rfl
@[simp] theorem setFrameIrq_tri (s : State) : (setFrameIrq s).tri = s.tri := rfl
@[simp] theorem setFrameIrq_noise (s : State) : (setFrameIrq s).noise = s.noise := rfl
@[simp] theorem setFrameIrq_dmc (s : State) : (setFrameIrq s).dmc = s.dmc := rfl
@[simp] theorem setFrameIrq_fs (s : State) : (setFrameIrq s).fs = { s.fs with irqPending := true } := rfl
@[simp] theorem setFrameIrq_out (s : State) : (setFrameIrq s).out = s.out := rfl
@[simp] theorem setFrameIrq_irq (s : State) : (setFrameIrq s).irq = (true || s.dmc.irqPending) := rfl
@[simp] theorem setFrameIrq_dmaRequest (s : State) : (setFrameIrq s).dmaRequest = s.dmaRequest := rfl
@[simp] theorem setFrameIrq_dmaAddress (s : State) : (setFrameIrq s).dmaAddress = s.dmaAddress := rfl

@[simp] theorem clearFrameIrq_cfg (s : State) : (clearFrameIrq s).cfg = s.cfg := rfl
@[simp] theorem clearFrameIrq_inputs (s : State) : (clearFrameIrq s).inputs = s.inputs := rfl
@[simp] theorem clearFrameIrq_draws (s : State) : (clearFrameIrq s).draws = s.draws := rfl
@[simp] theorem clearFrameIrq_eventCount (s : State) : (clearFrameIrq s).eventCount = s.eventCount := rfl
@[simp] theorem clearFrameIrq_returned (s : State) : (clearFrameIrq s).returned = s.returned := rfl
@[simp] theorem clearFrameIrq_p1 (s : State) : (clearFrameIrq s).p1 = s.p1 := rfl
@[simp] theorem clearFrameIrq_p2 (s : State) : (clearFrameIrq s).p2 = s.p2 := rfl
@[simp] theorem clearFrameIrq_tri (s : State) : (clearFrameIrq s).tri = s.tri := rfl
@[simp] theorem clearFrameIrq_noise (s : State) : (clearFrameIrq s).noise = s.noise := rfl
@[simp] theorem clearFrameIrq_dmc (s : State) : (clearFrameIrq s).dmc = s.dmc := rfl
@[simp] theorem clearFrameIrq_fs (s : State) : (clearFrameIrq s).fs = { s.fs with irqPending := false } := rfl
@[simp] theorem clearFrameIrq_out (s : State) : (clearFrameIrq s).out = s.out := rfl
@[simp] theorem clearFrameIrq_irq (s : State) : (clearFrameIrq s).irq = (false || s.dmc.irqPending) := rfl
@[simp] theorem clearFrameIrq_dmaRequest (s : State) : (clearFrameIrq s).dmaRequest = s.dmaRequest := rfl
@[simp] theorem clearFrameIrq_dmaAddress (s : State) : (clearFrameIrq s).dmaAddress = s.dmaAddress := rfl

@[simp] theorem setDmcIrq_cfg (s : State) : (setDmcIrq s).cfg = s.cfg := rfl
@[simp] theorem setDmcIrq_inputs (s : State) : (setDmcIrq s).inputs = s.inputs := rfl
@[simp] theorem setDmcIrq_draws (s : State) : (setDmcIrq s).draws = s.draws := rfl
@[simp] theorem setDmcIrq_eventCount (s : State) : (setDmcIrq s).eventCount = s.eventCount := rfl
@[simp] theorem setDmcIrq_returned (s : State) : (setDmcIrq s).returned = s.returned := rfl
@[simp] theorem setDmcIrq_p1 (s : State) : (setDmcIrq s).p1 = s.p1 := rfl
@[simp] theorem setDmcIrq_p2 (s : State) : (setDmcIrq s).p2 = s.p2 := rfl
@[simp] theorem setDmcIrq_tri (s : State) : (setDmcIrq s).tri = s.tri := rfl
@[simp] theorem setDmcIrq_noise (s : State) : (setDmcIrq s).noise = s.noise := rfl
@[simp] theorem setDmcIrq_dmc (s : State) : (setDmcIrq s).dmc = { s.dmc with irqPending := true } := rfl
@[simp] theorem setDmcIrq_fs (s : State) : (setDmcIrq s).fs = s.fs := rfl
@[simp] theorem setDmcIrq_out (s : State) : (setDmcIrq s).out = s.out := rfl
@[simp] theorem setDmcIrq_irq (s : State) : (setDmcIrq s).irq = (s.fs.irqPending || true) := rfl
@[simp] theorem setDmcIrq_dmaRequest (s : State) : (setDmcIrq s).dmaRequest = s.dmaRequest := rfl
@[simp] theorem setDmcIrq_dmaAddress (s : State) : (setDmcIrq s).dmaAddress = s.dmaAddress := rfl

@[simp] theorem clearDmcIrq_cfg (s : State) : (clearDmcIrq s).cfg = s.cfg := rfl
@[simp] theorem clearDmcIrq_inputs (s : State) : (clearDmcIrq s).inputs = s.inputs := rfl
@[simp] theorem clearDmcIrq_draws (s : State) : (clearDmcIrq s).draws = s.draws := rfl
@[simp] theorem clearDmcIrq_eventCount (s : State) : (clearDmcIrq s).eventCount = s.eventCount := rfl
@[simp] theorem clearDmcIrq_returned (s : State) : (clearDmcIrq s).returned = s.returned := rfl
@[simp] theorem clearDmcIrq_p1 (s : State) : (clearDmcIrq s).p1 = s.p1 := rfl
@[simp] theorem clearDmcIrq_p2 (s : State) : (clearDmcIrq s).p2 = s.p2 := rfl
@[simp] theorem clearDmcIrq_tri (s : State) : (clearDmcIrq s).tri = s.tri := rfl
@[simp] theorem clearDmcIrq_noise (s : State) : (clearDmcIrq s).noise = s.noise := rfl
@[simp] theorem clearDmcIrq_dmc (s : State) : (clearDmcIrq s).dmc = { s.dmc with irqPending := false } := rfl
@[simp] theorem clearDmcIrq_fs (s : State) : (clearDmcIrq s).fs = s.fs := rfl
@[simp] theorem clearDmcIrq_out (s : State) : (clearDmcIrq s).out = s.out := rfl
@[simp] theorem clearDmcIrq_irq (s : State) : (clearDmcIrq s).irq = (s.fs.irqPending || false) := rfl
@[simp] theorem clearDmcIrq_dmaRequest (s : State) : (clearDmcIrq s).dmaRequest = s.dmaRequest := rfl
@[simp] theorem clearDmcIrq_dmaAddress (s : State) : (clearDmcIrq s).dmaAddress = s.dmaAddress := rfl

end Sys2Proof.Machine
end

