-- ==== Sys2Proof/Laws/Ops.lean ====
section
/-! SUPPORT. What each shared operation can do, said once: its effect as an equation, and what it leaves unchanged. -/

namespace Sys2Proof.Machine

/-! ## Frame sequencer -/

/-- The frame interrupt flag after a tick. -/
theorem frameTick_fs (s : State) : (frameTick s).fs =
    { frameNext s.cfg s.fs with irqPending := (frameNext s.cfg s.fs).irqPending || (frameEvents s.cfg s.fs).irq } := by
  simp only [frameTick]
  split_ifs with h₁ h₂ h₃ h₄ <;> simp_all [quarterFrame, halfFrame]

/-- A pulse channel takes the clocks of one tick of the frame sequencer. -/
def pulseFrame (c : Config) (ch : PulseId) (ev : FrameEvents) (p : Pulse) : Pulse :=
  { p with
    env := if ev.quarter then envelopeClock p.env else p.env
    len := if ev.half then lengthMain p.len else p.len
    sweep := if ev.half then sweepClock (onesComplement c ch) p.sweep else p.sweep }

theorem frameTick_p1 (s : State) : (frameTick s).p1 = pulseFrame s.cfg .p1 (frameEvents s.cfg s.fs) s.p1 := by
  simp only [frameTick, pulseFrame]
  split_ifs <;> rfl

theorem frameTick_p2 (s : State) : (frameTick s).p2 = pulseFrame s.cfg .p2 (frameEvents s.cfg s.fs) s.p2 := by
  simp only [frameTick, pulseFrame]
  split_ifs <;> rfl

/-- The noise channel takes the clocks of one tick of the frame sequencer. -/
def noiseFrame (ev : FrameEvents) (n : Noise) : Noise :=
  { n with
    env := if ev.quarter then envelopeClock n.env else n.env
    len := if ev.half then lengthMain n.len else n.len }

theorem frameTick_noise (s : State) : (frameTick s).noise = noiseFrame (frameEvents s.cfg s.fs) s.noise := by
  simp only [frameTick, noiseFrame]
  split_ifs <;> rfl

/-- The triangle takes the clocks of one tick of the frame sequencer, the linear counter first. -/
def triFrame (ev : FrameEvents) (t : Triangle) : Triangle :=
  let t := if ev.quarter then triClockLinear t else t
  { t with len := if ev.half then lengthMain t.len else t.len }

theorem frameTick_tri (s : State) : (frameTick s).tri = triFrame (frameEvents s.cfg s.fs) s.tri := by
  simp only [frameTick, triFrame]
  split_ifs <;> rfl

theorem frameTick_irq (s : State) : (frameTick s).irq = (if (frameEvents s.cfg s.fs).irq then true else s.irq) := by
  simp only [frameTick]
  split_ifs <;> rfl

/-- The frame sequencer's tick leaves the DMC, the outputs, the parameters and the run unchanged. -/
theorem frameTick_frame (s : State) : frameTick s = { s with
    p1 := (frameTick s).p1
    p2 := (frameTick s).p2
    tri := (frameTick s).tri
    noise := (frameTick s).noise
    fs := (frameTick s).fs
    irq := (frameTick s).irq } := by
  simp only [frameTick]
  split_ifs <;> rfl

@[simp] theorem frameTick_cfg (s : State) : (frameTick s).cfg = s.cfg := by rw [frameTick_frame]
@[simp] theorem frameTick_inputs (s : State) : (frameTick s).inputs = s.inputs := by rw [frameTick_frame]
@[simp] theorem frameTick_draws (s : State) : (frameTick s).draws = s.draws := by rw [frameTick_frame]
@[simp] theorem frameTick_eventCount (s : State) : (frameTick s).eventCount = s.eventCount := by rw [frameTick_frame]
@[simp] theorem frameTick_returned (s : State) : (frameTick s).returned = s.returned := by rw [frameTick_frame]
@[simp] theorem frameTick_dmc (s : State) : (frameTick s).dmc = s.dmc := by rw [frameTick_frame]
@[simp] theorem frameTick_out (s : State) : (frameTick s).out = s.out := by rw [frameTick_frame]
@[simp] theorem frameTick_dmaRequest (s : State) : (frameTick s).dmaRequest = s.dmaRequest := by rw [frameTick_frame]
@[simp] theorem frameTick_dmaAddress (s : State) : (frameTick s).dmaAddress = s.dmaAddress := by rw [frameTick_frame]

/-! ## DMC -/

/-- Priming the start delay changes the delay counter only. -/
theorem dmcPrimeDelay_eq (n : BitVec 2) (d : Dmc) : dmcPrimeDelay n d = { d with
    dmaDelayCounter := if d.dmaBufferValid = false ∧ d.dmaOutstanding = false then n else d.dmaDelayCounter } := by
  simp only [dmcPrimeDelay]; split_ifs <;> rfl

theorem dmcStart_idle (n : BitVec 2) (d : Dmc) (h : d.lengthCounter = 0) : dmcStart n d = { d with
    readAddress := dmcStartAddress d.addressLatch
    lengthCounter := dmcStartLength d.lengthLatch
    triggered := true
    dmaDelayCounter := if d.dmaBufferValid = false ∧ d.dmaOutstanding = false then n else d.dmaDelayCounter } := by
  rw [dmcStart, if_pos h, dmcPrimeDelay_eq]
  rfl

theorem dmcStart_playing (n : BitVec 2) (d : Dmc) (h : d.lengthCounter ≠ 0) : dmcStart n d = d := if_neg h

/-- A request if needed: the flag it may set, and the address it may emit. -/
theorem requestIfNeeded_eq (x : DmcTick) : requestIfNeeded x =
    ⟨{ x.dmc with dmaOutstanding := x.dmc.dmaOutstanding || dmcWantsByte x.dmc },
      if dmcWantsByte x.dmc then some x.dmc.readAddress else x.request⟩ := by
  simp only [requestIfNeeded]; split_ifs with h <;> simp [h]

/-! ## The tick -/

/-- A length counter in one tick: the half-frame clock where it comes, then the buffered writes. -/
def lengthTick (c : Config) (ev : FrameEvents) (l : LengthCounter) : LengthCounter :=
  lengthApplyPending c (if ev.half then lengthMain l else l)

@[simp] theorem pulseTimerStep_len (p : Pulse) : (pulseTimerStep p).len = p.len := by
  simp only [pulseTimerStep]; split_ifs <;> rfl

@[simp] theorem pulseAdvance_len (c : Config) (ch : PulseId) (p : Pulse) : (pulseAdvance c ch p).len = p.len := by
  simp only [pulseAdvance]; split_ifs <;> simp

@[simp] theorem noiseTimerStep_len (c : Config) (n : Noise) : (noiseTimerStep c n).len = n.len := by
  simp only [noiseTimerStep]; split_ifs <;> rfl

@[simp] theorem noiseAdvance_len (c : Config) (n : Noise) : (noiseAdvance c n).len = n.len := by
  simp only [noiseAdvance]; split_ifs <;> simp

@[simp] theorem triTimerStep_len (t : Triangle) : (triTimerStep t).len = t.len := by
  simp only [triTimerStep]; split_ifs <;> rfl

@[simp] theorem triAdvance_len (t : Triangle) : (triAdvance t).len = t.len := by
  simp only [triAdvance]; split_ifs <;> simp

/-- The tick unit by unit: the frame sequencer first, then each channel on what it left, then the buffered writes. -/
theorem tick_eq (s : State) : tick s = { s with
    p1 := { pulseAdvance s.cfg .p1 (frameTick s).p1 with len := lengthApplyPending s.cfg (frameTick s).p1.len }
    p2 := { pulseAdvance s.cfg .p2 (frameTick s).p2 with len := lengthApplyPending s.cfg (frameTick s).p2.len }
    tri := { triAdvance (frameTick s).tri with len := lengthApplyPending s.cfg (frameTick s).tri.len }
    noise := { noiseAdvance s.cfg (frameTick s).noise with len := lengthApplyPending s.cfg (frameTick s).noise.len }
    dmc := (dmcAdvance s.cfg s.dmc).dmc
    fs := (frameTick s).fs
    out :=
      { p1 := pulseLevel s.cfg .p1 (frameTick s).p1
        p2 := pulseLevel s.cfg .p2 (frameTick s).p2
        tri := triValue (frameTick s).tri.stepCounter
        noise := noiseLevel (frameTick s).noise
        dmc := s.dmc.dacLatch }
    irq := (frameTick s).irq
    dmaRequest := (dmcAdvance s.cfg s.dmc).request.map (dmcBusAddr s.cfg)
    dmaAddress := ((dmcAdvance s.cfg s.dmc).request.map (dmcBusAddr s.cfg)).getD s.dmaAddress } := by
  simp only [tick, pulseClock, triClock, noiseClock, dmcClock, applyAllPending, State.withPulse, State.withOut,
    State.withTri, State.withNoise, State.pulse, Outputs.withPulse, frameTick_cfg, frameTick_inputs, frameTick_draws,
    frameTick_eventCount, frameTick_returned, frameTick_dmc, frameTick_dmaAddress, pulseAdvance_len, triAdvance_len,
    noiseAdvance_len]

end Sys2Proof.Machine
end

