-- ==== Sys2Proof/Laws/PerInstr.lean ====
section
/-! SUPPORT. Per-instruction families: a well-formed event decodes from its encoding (R90, R94, R118), and an event's kind field
is that of the agent that issues it (R6, R90, R315). -/

namespace Sys2Proof.Laws.RoundTrip

/-- Decoding an encoded well-formed event gives it back. -/
def Statement (i : Instr) : Prop := i.wf = true → decode (encode i) = .instr i

theorem wr4000 (d : Byte) : Statement (.wr4000 d) := fun _ => decode_writeWord _ d

theorem wr4001 (d : Byte) : Statement (.wr4001 d) := fun _ => decode_writeWord _ d

theorem wr4002 (d : Byte) : Statement (.wr4002 d) := fun _ => decode_writeWord _ d

theorem wr4003 (d : Byte) : Statement (.wr4003 d) := fun _ => decode_writeWord _ d

theorem wr4004 (d : Byte) : Statement (.wr4004 d) := fun _ => decode_writeWord _ d

theorem wr4005 (d : Byte) : Statement (.wr4005 d) := fun _ => decode_writeWord _ d

theorem wr4006 (d : Byte) : Statement (.wr4006 d) := fun _ => decode_writeWord _ d

theorem wr4007 (d : Byte) : Statement (.wr4007 d) := fun _ => decode_writeWord _ d

theorem wr4008 (d : Byte) : Statement (.wr4008 d) := fun _ => decode_writeWord _ d

theorem wr4009 (d : Byte) : Statement (.wr4009 d) := fun _ => decode_writeWord _ d

theorem wr400A (d : Byte) : Statement (.wr400A d) := fun _ => decode_writeWord _ d

theorem wr400B (d : Byte) : Statement (.wr400B d) := fun _ => decode_writeWord _ d

theorem wr400C (d : Byte) : Statement (.wr400C d) := fun _ => decode_writeWord _ d

theorem wr400D (d : Byte) : Statement (.wr400D d) := fun _ => decode_writeWord _ d

theorem wr400E (d : Byte) : Statement (.wr400E d) := fun _ => decode_writeWord _ d

theorem wr400F (d : Byte) : Statement (.wr400F d) := fun _ => decode_writeWord _ d

theorem wr4010 (d : Byte) : Statement (.wr4010 d) := fun _ => decode_writeWord _ d

theorem wr4011 (d : Byte) : Statement (.wr4011 d) := fun _ => decode_writeWord _ d

theorem wr4012 (d : Byte) : Statement (.wr4012 d) := fun _ => decode_writeWord _ d

theorem wr4013 (d : Byte) : Statement (.wr4013 d) := fun _ => decode_writeWord _ d

theorem wr4015 (d : Byte) : Statement (.wr4015 d) := fun _ => decode_writeWord _ d

theorem wr4017 (d : Byte) : Statement (.wr4017 d) := fun _ => decode_writeWord _ d

theorem rd4015 : Statement .rd4015 := fun _ => by decide

theorem rdOpen4000 (a : BusAddr) : Statement (.rdOpen4000 a) := fun h => by
  have h : inRow4000 a = true := h
  have h15 : a ≠ 0x4015#16 := by rintro rfl; revert h; decide
  rw [encode, decode_readWord, decodeRead, if_neg h15, if_pos h]

theorem rdOpen4010 (a : BusAddr) : Statement (.rdOpen4010 a) := fun h => by
  have h : inRow4010 a = true := h
  have h15 : a ≠ 0x4015#16 := by rintro rfl; revert h; decide
  have h00 : ¬inRow4000 a = true := by
    simp only [inRow4000, inRow4010, beq_iff_eq] at h ⊢
    intro h0
    have e1 := congrArg BitVec.toNat h
    have e0 := congrArg BitVec.toNat h0
    simp only [BitVec.extractLsb'_toNat, Nat.shiftRight_eq_div_pow] at e1 e0
    have := a.isLt
    simp at e1 e0
    omega
  rw [encode, decode_readWord, decodeRead, if_neg h15, if_neg h00, if_pos h]

theorem rdOpen4017 : Statement .rdOpen4017 := fun _ => by decide

theorem tick : Statement .tick := fun _ => by decide

theorem dmaDeliver (d : Byte) : Statement (.dmaDeliver d) := fun _ => by simp [encode, dmaWord, decode]

theorem power : Statement .power := fun _ => by decide

theorem reset : Statement .reset := fun _ => by decide

end Sys2Proof.Laws.RoundTrip

namespace Sys2Proof.Laws.IssuedKind

/-- The kind field `K` that an agent's events carry. -/
def kindOf : Machine.Agent → BitVec 2
  | .busMaster => 0
  | .scheduler => 1
  | .dmaResponder => 2
  | .resetSource => 3

/-- The kind field of an encoded event is that of its agent. -/
def Statement (i : Instr) : Prop := eventKind (encode i) = kindOf (Machine.issuer i)

theorem wr4000 (d : Byte) : Statement (.wr4000 d) := eventKind_eventWord _ _ _ _

theorem wr4001 (d : Byte) : Statement (.wr4001 d) := eventKind_eventWord _ _ _ _

theorem wr4002 (d : Byte) : Statement (.wr4002 d) := eventKind_eventWord _ _ _ _

theorem wr4003 (d : Byte) : Statement (.wr4003 d) := eventKind_eventWord _ _ _ _

theorem wr4004 (d : Byte) : Statement (.wr4004 d) := eventKind_eventWord _ _ _ _

theorem wr4005 (d : Byte) : Statement (.wr4005 d) := eventKind_eventWord _ _ _ _

theorem wr4006 (d : Byte) : Statement (.wr4006 d) := eventKind_eventWord _ _ _ _

theorem wr4007 (d : Byte) : Statement (.wr4007 d) := eventKind_eventWord _ _ _ _

theorem wr4008 (d : Byte) : Statement (.wr4008 d) := eventKind_eventWord _ _ _ _

theorem wr4009 (d : Byte) : Statement (.wr4009 d) := eventKind_eventWord _ _ _ _

theorem wr400A (d : Byte) : Statement (.wr400A d) := eventKind_eventWord _ _ _ _

theorem wr400B (d : Byte) : Statement (.wr400B d) := eventKind_eventWord _ _ _ _

theorem wr400C (d : Byte) : Statement (.wr400C d) := eventKind_eventWord _ _ _ _

theorem wr400D (d : Byte) : Statement (.wr400D d) := eventKind_eventWord _ _ _ _

theorem wr400E (d : Byte) : Statement (.wr400E d) := eventKind_eventWord _ _ _ _

theorem wr400F (d : Byte) : Statement (.wr400F d) := eventKind_eventWord _ _ _ _

theorem wr4010 (d : Byte) : Statement (.wr4010 d) := eventKind_eventWord _ _ _ _

theorem wr4011 (d : Byte) : Statement (.wr4011 d) := eventKind_eventWord _ _ _ _

theorem wr4012 (d : Byte) : Statement (.wr4012 d) := eventKind_eventWord _ _ _ _

theorem wr4013 (d : Byte) : Statement (.wr4013 d) := eventKind_eventWord _ _ _ _

theorem wr4015 (d : Byte) : Statement (.wr4015 d) := eventKind_eventWord _ _ _ _

theorem wr4017 (d : Byte) : Statement (.wr4017 d) := eventKind_eventWord _ _ _ _

theorem dmaDeliver (d : Byte) : Statement (.dmaDeliver d) := eventKind_eventWord _ _ _ _

theorem rdOpen4000 (a : BusAddr) : Statement (.rdOpen4000 a) := eventKind_eventWord _ _ _ _

theorem rdOpen4010 (a : BusAddr) : Statement (.rdOpen4010 a) := eventKind_eventWord _ _ _ _

theorem rd4015 : Statement .rd4015 := eventKind_eventWord _ _ _ _

theorem rdOpen4017 : Statement .rdOpen4017 := eventKind_eventWord _ _ _ _

theorem tick : Statement .tick := eventKind_eventWord _ _ _ _

theorem power : Statement .power := eventKind_eventWord _ _ _ _

theorem reset : Statement .reset := eventKind_eventWord _ _ _ _

end Sys2Proof.Laws.IssuedKind
end

