-- ==== Sys2Proof/Tests/Slice0.lean ====
section
/-! SUPPORT. Tests and witnesses. The expected values are those of spec/95_test_vectors.md, named by vector, or are
written out by hand from the rule named. A witness shows a state that meets the hypotheses of a statement. -/

namespace Sys2Proof.Tests

open Sys2Proof Sys2Proof.Machine Sys2Proof.Spec

/-! ## Helpers -/

/-- The draws of the conventions of 95_test_vectors.md. -/
def vectorDraws : Draws := ⟨some 0x00, some .short, some .short⟩

/-- The reset state with those draws supplied. -/
def s0 : State := { State.reset with draws := vectorDraws }

/-- A state just before the half-frame step 1. -/
def race : State := { s0 with fs := { s0.fs with counter := 1, step := 1 } }

/-- The state an outcome leads to. -/
def after : Host.Outcome State Fault Refusal → Option State
  | .next t => some t
  | .fault _ => none
  | .refused _ => none

/-- An enabled length counter at `n`. -/
def live (n : Byte) : LengthCounter := { resetLength with enable := true, counter := n }

/-- The state with one event pending. -/
def pending (w : EventWord) (s : State) : State := { s with inputs := [⟨w, vectorDraws⟩] }

/-! ## Well-formedness -/

theorem test_wf_refuses_4010_in_row_4000 : (Instr.rdOpen4000 0x4010).wf = false := by decide
theorem test_wf_refuses_3FFF_in_row_4000 : (Instr.rdOpen4000 0x3FFF).wf = false := by decide
theorem test_wf_refuses_4014_in_row_4010 : (Instr.rdOpen4010 0x4014).wf = false := by decide
theorem test_wf_refuses_400F_in_row_4010 : (Instr.rdOpen4010 0x400F).wf = false := by decide
theorem test_wf_admits_the_row_ends : (Instr.rdOpen4000 0x4000).wf = true ∧ (Instr.rdOpen4000 0x400F).wf = true ∧
    (Instr.rdOpen4010 0x4010).wf = true ∧ (Instr.rdOpen4010 0x4013).wf = true := by decide

/-! ## Decoding: words written out from R90 and the rows of spec/opcode_table.json -/

theorem test_decode_pulse1 : decode 0x14000BA = .instr (.wr4000 0xBA) ∧ decode 0x1400188 = .instr (.wr4001 0x88) ∧
    decode 0x14002FF = .instr (.wr4002 0xFF) ∧ decode 0x140030A = .instr (.wr4003 0x0A) := by decide
theorem test_decode_pulse2 : decode 0x140047F = .instr (.wr4004 0x7F) ∧ decode 0x1400508 = .instr (.wr4005 0x08) ∧
    decode 0x1400601 = .instr (.wr4006 0x01) ∧ decode 0x14007F8 = .instr (.wr4007 0xF8) := by decide
theorem test_decode_triangle : decode 0x1400804 = .instr (.wr4008 0x04) ∧ decode 0x14009FF = .instr (.wr4009 0xFF) ∧
    decode 0x1400A02 = .instr (.wr400A 0x02) ∧ decode 0x1400B08 = .instr (.wr400B 0x08) := by decide
theorem test_decode_noise : decode 0x1400C37 = .instr (.wr400C 0x37) ∧ decode 0x1400DFF = .instr (.wr400D 0xFF) ∧
    decode 0x1400E80 = .instr (.wr400E 0x80) ∧ decode 0x1400F08 = .instr (.wr400F 0x08) := by decide
theorem test_decode_dmc : decode 0x140108F = .instr (.wr4010 0x8F) ∧ decode 0x1401140 = .instr (.wr4011 0x40) ∧
    decode 0x14012FF = .instr (.wr4012 0xFF) ∧ decode 0x1401301 = .instr (.wr4013 0x01) := by decide
theorem test_decode_status_and_frame : decode 0x140150F = .instr (.wr4015 0x0F) ∧
    decode 0x14017C0 = .instr (.wr4017 0xC0) ∧ decode 0x0401500 = .instr .rd4015 := by decide
theorem test_decode_open_reads : decode 0x0400000 = .instr (.rdOpen4000 0x4000) ∧
    decode 0x0400F00 = .instr (.rdOpen4000 0x400F) ∧ decode 0x0401000 = .instr (.rdOpen4010 0x4010) ∧
    decode 0x0401300 = .instr (.rdOpen4010 0x4013) ∧ decode 0x0401700 = .instr .rdOpen4017 := by decide
theorem test_decode_other_events : decode 0x2000000 = .instr .tick ∧ decode 0x4000055 = .instr (.dmaDeliver 0x55) ∧
    decode 0x6000000 = .instr .power ∧ decode 0x6000001 = .instr .reset := by decide
/-- R90, R120: one word per kind. -/
theorem test_decode_refuses : decode 0x0401501 = .malformed .readData ∧ decode 0x2000001 = .malformed .tickFields ∧
    decode 0x3000000 = .malformed .tickFields ∧ decode 0x4000100 = .malformed .deliverFields ∧
    decode 0x6000002 = .malformed .powerFields := by decide
/-- R80, R92: undecoded addresses, $4014 and $4016 among them. -/
theorem test_decode_foreign : decode 0x1401800 = .foreign true 0x4018 0x00 ∧
    decode 0x1401402 = .foreign true 0x4014 0x02 ∧ decode 0x0401600 = .foreign false 0x4016 0 ∧
    decode 0x1401601 = .foreign true 0x4016 0x01 := by decide
theorem test_encode_words : encode (.wr4015 0x0F) = 0x140150F ∧ encode .rd4015 = 0x0401500 ∧
    encode (.rdOpen4000 0x4009) = 0x0400900 ∧ encode .tick = 0x2000000 ∧ encode (.dmaDeliver 0x55) = 0x4000055 ∧
    encode .reset = 0x6000001 := by decide
theorem test_table_word : decodeTableWord 32 0x140150F = some (.wr4015 0x0F) ∧ decodeTableWord 32 0x8000000 = none ∧
    decodeTableWord 32 0x2000001 = none := by decide
theorem test_fetch_word : (after (step (State.reset.withFetchWord 32 0x1401140))).map (·.dmc.dacLatch) = some 64 := by
  decide

/-! ## Register writes -/

/-- P1. -/
theorem test_wr4000 : (after (exec (.wr4000 0xBA) s0)).map (fun t =>
    (t.p1.duty, t.p1.len.halt, t.p1.env.loopMode, t.p1.env.useSpeedAsVolume, t.p1.env.speed)) =
    some (2, true, true, true, 10) := by decide
/-- L2-LEN-6, the write. -/
theorem test_wr4000_in_a_half_frame_cycle :
    (after (exec (.wr4000 0x00) { race with p1 := { race.p1 with len := { live 40 with halt := true } } })).map
      (fun t => (t.p1.len.halt, t.p1.len.delayHalt, t.p1.len.newHalt)) = some (true, true, false) := by decide
/-- R96: E = 1, PPP = 3, N = 1, SSS = 1. -/
theorem test_wr4001 : (after (exec (.wr4001 0xB9) s0)).map (·.p1.sweep) =
    some ⟨true, 3, true, 1, true, 0, 0⟩ := by decide
/-- L2-PUL-4. -/
theorem test_wr4002 : (after (exec (.wr4002 0xFF)
    { s0 with p1 := { s0.p1 with sweep := { s0.p1.sweep with pulsePeriod := 0x2AB } } })).map
      (·.p1.sweep.pulsePeriod) = some 0x2FF := by decide
/-- L2-PUL-3. -/
theorem test_wr4003 : (after (exec (.wr4003 0x0A) { s0 with p1 := { s0.p1 with
      len := live 0, dutyCounter := 5, sweep := { s0.p1.sweep with pulsePeriod := 0x0FF } } })).map
    (fun t => (t.p1.sweep.pulsePeriod, t.p1.dutyCounter, t.p1.env.reloadDecay, t.p1.len.counter)) =
    some (0x2FF, 0, true, 254) := by decide
/-- L2-LEN-4, the write. -/
theorem test_wr4003_in_a_half_frame_cycle :
    (after (exec (.wr4003 0x18) { race with p1 := { race.p1 with len := live 40 } })).map
      (fun t => (t.p1.len.counter, t.p1.len.delayCounter, t.p1.len.counterIndex)) = some (40, true, 3) := by decide
/-- R95: DD = 1, L = 1, C = 1, VVVV = 15, on channel 2 only. -/
theorem test_wr4004 : (after (exec (.wr4004 0x7F) s0)).map (fun t =>
    (t.p2.duty, t.p2.len.halt, t.p2.env.speed, t.p1)) = some (1, true, 15, resetPulse) := by decide
/-- R96: E = 0, PPP = 0, N = 1, SSS = 7, on channel 2 only. -/
theorem test_wr4005 : (after (exec (.wr4005 0x0F) s0)).map (fun t => (t.p2.sweep, t.p1)) =
    some (⟨false, 0, true, 7, true, 0, 0⟩, resetPulse) := by decide
/-- R97. -/
theorem test_wr4006 : (after (exec (.wr4006 0x08) s0)).map (fun t => (t.p2.sweep.pulsePeriod, t.p1)) =
    some (8, resetPulse) := by decide
/-- L1-1, index 31, on channel 2. -/
theorem test_wr4007 : (after (exec (.wr4007 0xF8) { s0 with p2 := { s0.p2 with len := live 0 } })).map
    (fun t => (t.p2.len.counter, t.p1)) = some (30, resetPulse) := by decide
/-- L2-TRI-7. -/
theorem test_wr4008 : (after (exec (.wr4008 0x81) s0)).map (fun t => (t.tri.len.halt, t.tri.linearLength)) =
    some (true, 1) := by decide
/-- L2-CTL-5. -/
theorem test_wr4009 : exec (.wr4009 0xFF) s0 = .next s0 := rfl
/-- P4. -/
theorem test_wr400A : (after (exec (.wr400A 0x02) s0)).map (·.tri.period) = some 2 := by decide
/-- P4. -/
theorem test_wr400B : (after (exec (.wr400B 0x0F) { s0 with tri := { s0.tri with len := live 0, period := 2 } })).map
    (fun t => (t.tri.len.counter, t.tri.period, t.tri.reloadLinear)) = some (254, 0x702, true) := by decide
/-- L2-NOI-1. -/
theorem test_wr400C : (after (exec (.wr400C 0x37) s0)).map (fun t =>
    (t.noise.len.halt, t.noise.env.useSpeedAsVolume, t.noise.env.speed)) = some (true, true, 7) := by decide
/-- L2-CTL-5. -/
theorem test_wr400D : exec (.wr400D 0xFF) s0 = .next s0 := rfl
/-- L2-NOI-4. -/
theorem test_wr400E : (after (exec (.wr400E 0x8F) s0)).map (fun t => (t.noise.shortMode, t.noise.period)) =
    some (true, 15) := by decide
/-- L2-NOI-1. -/
theorem test_wr400F : (after (exec (.wr400F 0x08) { s0 with noise := { s0.noise with len := live 0 } })).map
    (fun t => (t.noise.len.counter, t.noise.env.reloadDecay)) = some (254, true) := by decide
/-- L2-DMC-10, cleared. -/
theorem test_wr4010_clears : (after (exec (.wr4010 0x0F)
    { s0 with dmc := { s0.dmc with irqPending := true }, irq := true })).map
      (fun t => (t.dmc.irqPending, t.irq, t.dmc.period)) = some (false, false, 15) := by decide
/-- L2-DMC-10, kept. -/
theorem test_wr4010_keeps : (after (exec (.wr4010 0x8F)
    { s0 with dmc := { s0.dmc with irqPending := true }, irq := true })).map
      (fun t => (t.dmc.irqPending, t.irq, t.dmc.irqEnable)) = some (true, true, true) := by decide
/-- L2-DMC-5. -/
theorem test_wr4011 : (after (exec (.wr4011 0x40) s0)).map (·.dmc.dacLatch) = some 64 := by decide
/-- L2-DMC-1. -/
theorem test_wr4012 : (after (exec (.wr4012 0xFF) s0)).map (fun t => (t.dmc.addressLatch, t.dmc.readAddress)) =
    some (0xFF, 0) := by decide
/-- L2-DMC-3: the count in progress stays. -/
theorem test_wr4013 : (after (exec (.wr4013 0x01) s0)).map (fun t => (t.dmc.lengthLatch, t.dmc.lengthCounter)) =
    some (1, 0) := by decide
/-- L2-DMC-1. -/
theorem test_wr4015_starts : (after (exec (.wr4015 0x10)
    { s0 with dmc := { s0.dmc with addressLatch := 0xFF, lengthLatch := 0xFF } })).map
      (fun t => (t.dmc.readAddress, t.dmc.lengthCounter, t.dmc.dmaDelayCounter, t.dmc.triggered)) =
    some (0x7FC0, 4081, 2, true) := by decide
/-- L2-LEN-7. -/
theorem test_wr4015_disables : (after (exec (.wr4015 0x00)
    { race with p1 := { race.p1 with len := { live 40 with delayCounter := true, counterIndex := 3 } } })).map
      (fun t => (t.p1.len.counter, t.p1.len.delayCounter, t.dmc.triggeredStop)) = some (0, false, true) := by decide
/-- L2-FS-6, `$40`. -/
theorem test_wr4017_acknowledges : (after (exec (.wr4017 0x40)
    { s0 with fs := { s0.fs with irqPending := true }, irq := true })).map
      (fun t => (t.fs.irqPending, t.irq, t.fs.irqInhibit, t.fs.delay, t.fs.delayCounter)) =
    some (false, false, true, true, 1) := by decide
/-- L2-FS-6, `$80`. -/
theorem test_wr4017_keeps_the_flag : (after (exec (.wr4017 0x80)
    { s0 with fs := { s0.fs with irqPending := true }, irq := true })).map
      (fun t => (t.fs.irqPending, t.irq, t.fs.mode)) = some (true, true, true) := by decide

/-! ## Register reads -/

/-- L2-CTL-6. -/
theorem test_rd4015 : (after (exec .rd4015 { s0 with
      draws := { vectorDraws with openBus := some 0x40 }, fs := { s0.fs with irqPending := true }
      p1 := { s0.p1 with len := live 3 } })).map (·.returned) = some (some 0x41) := by decide
/-- L2-CTL-4. -/
theorem test_rd4015_both_flags : (after (exec .rd4015 { s0 with
      fs := { s0.fs with irqPending := true }, dmc := { s0.dmc with irqPending := true }, irq := true })).map
    (fun t => (t.returned, t.fs.irqPending, t.dmc.irqPending, t.irq)) = some (some 0xC0, false, true, true) := by decide
/-- L2-CTL-1, the open-bus reads. -/
theorem test_rdOpen : ∀ i ∈ [Instr.rdOpen4000 0x4009, .rdOpen4000 0x4000, .rdOpen4010 0x4010, .rdOpen4017],
    (after (exec i { s0 with draws := { vectorDraws with openBus := some 0xA5 } })).map (·.returned) =
      some (some 0xA5) := by decide

/-! ## Tick, delivery, reset -/

/-- L2-NOI-2. -/
theorem test_tick_noise : (after (exec .tick { s0 with noise := { s0.noise with
      len := live 10, env := { s0.noise.env with useSpeedAsVolume := true, speed := 7 }, period := 5 } })).map
    (fun t => (t.out.noise, t.noise.lfsr, t.noise.periodCounter)) = some (7, 0x4000, 96) := by decide
/-- L2-DMC-12. -/
theorem test_tick_dmc : (after (exec .tick { s0 with dmc := { s0.dmc with
      sampleValid := true, sample := 0x01, dacLatch := 64 } })).map
    (fun t => (t.out.dmc, t.dmc.dacLatch, t.dmc.bitCounter, t.dmc.periodCounter)) = some (64, 66, 1, 428) := by decide
/-- L2-DMC-2. -/
theorem test_dmaDeliver_wraps : (after (exec (.dmaDeliver 0x12) { s0 with dmc := { s0.dmc with
      readAddress := 0x7FFF, lengthCounter := 4081, dmaOutstanding := true } })).map
    (fun t => (t.dmc.readAddress, t.dmc.lengthCounter, t.dmc.dmaBuffer)) = some (0, 4080, 0x12) := by decide
/-- L2-DMC-7. -/
theorem test_dmaDeliver_loops : (after (exec (.dmaDeliver 0xAA) { s0 with dmc := { s0.dmc with
      irqEnable := true, loopMode := true, addressLatch := 2, readAddress := 0x4080, lengthCounter := 1
      dmaOutstanding := true } })).map
    (fun t => (t.dmc.readAddress, t.dmc.lengthCounter, t.dmc.irqPending, t.dmc.dmaBufferValid)) =
    some (0x4080, 1, false, true) := by decide
/-- L2-RST-1. -/
theorem test_power : (after (exec .power { race with noise := { race.noise with lfsr := 5 }, irq := true })).map
    (fun t => (t.fs.counter, t.fs.step, t.noise.lfsr, t.irq)) = some (7457, 0, 1, false) := by decide
/-- L2-RST-1. -/
theorem test_reset : (after (exec .reset { race with p1 := { race.p1 with len := live 30 }, out := ⟨1, 2, 3, 4, 5⟩ })).map
    (fun t => (t.fs.counter, t.p1.len.counter, t.out)) = some (7457, 0, ⟨0, 0, 0, 0, 0⟩) := by decide

/-! ## Sub-units -/

/-- L2-SWP-1 and rows of L2-SWP-2. -/
theorem test_sweep_target :
    sweepTarget true { resetSweep with pulsePeriod := 0x100, shift := 1, decrement := true } = 0x7F ∧
    sweepTarget false { resetSweep with pulsePeriod := 0x100, shift := 1, decrement := true } = 0x80 ∧
    sweepTarget true { resetSweep with pulsePeriod := 8, decrement := true } = -1 ∧
    sweepTarget true { resetSweep with pulsePeriod := 0x400 } = 0x800 := by decide
/-- L2-SWP-3 and L2-SWP-4. -/
theorem test_sweep_clock :
    sweepClock true ⟨true, 3, false, 1, false, 0, 0x100⟩ = ⟨true, 3, false, 1, false, 3, 0x180⟩ ∧
    sweepClock true ⟨true, 3, false, 1, true, 2, 0x100⟩ = ⟨true, 3, false, 1, false, 3, 0x100⟩ := by decide
/-- L2-TRI-1. -/
theorem test_tri_values : (List.range 32).map (fun k => (triValue (BitVec.ofNat 5 k)).toNat) =
    [15, 14, 13, 12, 11, 10, 9, 8, 7, 6, 5, 4, 3, 2, 1, 0, 0, 1, 2, 3, 4, 5, 6, 7, 8, 9, 10, 11, 12, 13, 14, 15] := by
  decide
/-- L2-ENV-1. -/
theorem test_envelope : (List.range 7).map (fun n => ((envelopeClock^[n + 1] ⟨2, false, false, true, 0, 0⟩).decayCounter.toNat,
      (envelopeClock^[n + 1] ⟨2, false, false, true, 0, 0⟩).decayVolume.toNat)) =
    [(2, 15), (1, 15), (0, 15), (2, 14), (1, 14), (0, 14), (2, 13)] := by decide

/-! ## Witnesses of hypotheses: encoding and the step -/

theorem witness_StepExecutesTheDecodedEvent :
    (pending 0x2000000 s0).inputs = ⟨0x2000000, vectorDraws⟩ :: [] ∧ decode 0x2000000 = .instr .tick := by decide
/-- Both clauses at the ends of the decoded ranges and beside them. -/
theorem witness_BusAccessesReachTheirRegisterOrChangeNothing :
    (∀ a ∈ [0x4000#16, 0x4013#16, 0x4015#16, 0x4017#16], eventKind (writeWord a 0xFF) = 0 ∧
      eventWrite (writeWord a 0xFF) = true ∧
      ((0x4000 ≤ a.toNat ∧ a.toNat ≤ 0x4013) ∨ a.toNat = 0x4015 ∨ a.toNat = 0x4017)) ∧
    (∀ a ∈ [0x3FFF#16, 0x4014#16, 0x4016#16, 0x4018#16], eventKind (readWord a) = 0 ∧ eventData (readWord a) = 0 ∧
      ¬((0x4000 ≤ a.toNat ∧ a.toNat ≤ 0x4013) ∨ a.toNat = 0x4015 ∨ a.toNat = 0x4017)) := by
  simp [writeWord, readWord, eventKind_eventWord, eventWrite_eventWord, eventData_eventWord]
theorem witness_MalformedWordsAndEmptyRunsAreRefused :
    (pending 0x2000001 s0).inputs = ⟨0x2000001, vectorDraws⟩ :: [] ∧ decode 0x2000001 = .malformed .tickFields ∧
    s0.inputs = [] := by decide
/-- A word of each class, with the lowest bit of the field that must be 0. -/
theorem witness_MalformedWordsAreThoseWithAFieldSetThatMustBeZero :
    decode 0x0000001 = .malformed .readData ∧ decode 0x2000001 = .malformed .tickFields ∧
    decode 0x4000100 = .malformed .deliverFields ∧ decode 0x6000002 = .malformed .powerFields ∧
    decode 0x0000000 = .foreign false 0 0 := by decide

/-! ## Witnesses: register writes and reads -/

/-- The half-frame cycles of the statements about control and length writes (R251): a half-frame cycle at step 1 and at step 4, and none after reset. -/
theorem witness_HalfClockNext : HalfClockNext race ∧ HalfClockNext { race with fs := { race.fs with step := 4 } } ∧
    ¬HalfClockNext s0 := by
  unfold HalfClockNext; decide
/-- The three clauses of a length load, for PulseHighWritesLoadLengthAndRestart, TrianglePeriodWritesSetTheirFields and
NoisePeriodAndLengthWritesSetTheirFields, at the first and the last index. -/
theorem witness_LengthWritten : resetLength.enable = false ∧ (live 0).enable = true ∧ bits 0x00 7 3 = 0 ∧
    bits 0xF8 7 3 = 31 ∧ defaultConfig.lengthTable[0]? = some 10 ∧ defaultConfig.lengthTable[31]? = some 30 := by decide
/-- The clauses of a $4015 write: a stop, a start while playing, a start while idle with the buffer empty, full, and a
request outstanding, and both draws. -/
theorem witness_StatusWriteEnablesChannelsAndStartsOrStopsTheDmc :
    bit 0x0F 4 = false ∧ bit 0x10 4 = true ∧ s0.dmc.lengthCounter = 0 ∧
    { resetDmc with lengthCounter := 1 }.lengthCounter ≠ 0 ∧ s0.dmc.dmaBufferValid = false ∧
    s0.dmc.dmaOutstanding = false ∧ { resetDmc with dmaBufferValid := true }.dmaBufferValid = true ∧
    { resetDmc with dmaOutstanding := true }.dmaOutstanding = true ∧ s0.draws.dmcDelay = some .short ∧
    { vectorDraws with dmcDelay := some .long }.dmcDelay = some .long := by decide
theorem witness_FrameWriteSetsModeAndDelaysTheRestart : s0.draws.frameDelay = some .short ∧
    { vectorDraws with frameDelay := some .long }.frameDelay = some .long := by decide
theorem witness_StatusReadReturnsFlagsAndClearsFrameIrq : s0.draws.openBus = some 0 := by decide
theorem witness_OpenReads : (∃ a, Instr.rdOpen4000 0x4000 = .rdOpen4000 a ∨ Instr.rdOpen4000 0x4000 = .rdOpen4010 a) ∧
    s0.draws.openBus = some 0 := ⟨⟨_, .inl rfl⟩, rfl⟩

/-! ## Witnesses: DMA and reset -/

/-- A channel that awaits `n` bytes with a request outstanding. -/
def awaiting (n : BitVec 12) (loop irq : Bool) : State :=
  { s0 with dmc := { s0.dmc with lengthCounter := n, dmaOutstanding := true, loopMode := loop, irqEnable := irq } }

/-- The last byte with and without loop and interrupt, and the byte before the last. -/
theorem witness_ExpectedDeliveryFillsTheBuffer :
    (∀ l i, (awaiting 1 l i).dmc.dmaOutstanding = true ∧ (awaiting 1 l i).dmc.lengthCounter.toNat = 1 ∧
      (awaiting 1 l i).dmc.loopMode = l ∧ (awaiting 1 l i).dmc.irqEnable = i) ∧
    (awaiting 2 true true).dmc.lengthCounter.toNat ≠ 1 ∧ (awaiting 2 true true).dmc.lengthCounter ≠ 0 := by decide
/-- L2-DMC-9: each fault in a state where it comes. -/
theorem witness_OnlyUnexpectedDeliveriesFault : exec (.dmaDeliver 1) s0 = .fault .dmaUnrequested ∧
    exec (.dmaDeliver 1) (awaiting 0 false false) = .fault .dmaWhileIdle := ⟨rfl, rfl⟩
/-- L2-RST-2: a request, a buffered load and a pending restart before the reset. -/
theorem witness_NothingInFlightSurvivesAReset : (awaiting 1 false false).dmc.dmaOutstanding = true ∧
    { live 40 with delayCounter := true }.delayCounter = true ∧
    (after (exec .reset (awaiting 1 false false))).map (·.dmc.dmaOutstanding) = some false := by decide

/-! ## Witnesses: the tick -/

/-- A pending restart that expires in the next tick. -/
def restarting (mode : Bool) : State :=
  { s0 with fs := { s0.fs with delay := true, delayCounter := 1, mode := mode } }

/-- The sequencer about to fire a step. -/
def firing (mode : Bool) (k : BitVec 3) : State := { s0 with fs := { s0.fs with counter := 1, step := k, mode := mode } }

/-- The first clauses of TickAdvancesTheFrameSequencer, and the restart among the clauses of
TickClocksEnvelopesLinearCounterAndSweeps. -/
theorem witness_RestartNext : RestartNext (restarting true) ∧ ¬RestartNext s0 := by
  unfold RestartNext; decide
/-- The step clauses of TickAdvancesTheFrameSequencer, at the first and the last step; where both a restart and a step
are due, only the restart is taken. -/
theorem witness_StepNext : StepNext (firing false 0) ∧ StepNext (firing true 5) ∧ ¬StepNext s0 ∧
    ¬StepNext { restarting false with fs := { (restarting false).fs with counter := 1 } } := by
  unfold StepNext RestartNext; decide
/-- L2-FS-1: a quarter frame at the steps 0 and 4 and at an expiring restart of the 5-step mode, none at step 3. -/
theorem witness_QuarterNext : QuarterNext (firing false 0) ∧ QuarterNext (firing true 4) ∧
    QuarterNext (restarting true) ∧ ¬QuarterNext (firing false 3) ∧ ¬QuarterNext (restarting false) := by
  unfold QuarterNext StepNext RestartNext InSteps; decide
/-- L2-FS-1: a half frame at the steps 1 and 4, none at step 2. -/
theorem witness_HalfNext : HalfNext (firing false 1) ∧ HalfNext (firing true 4) ∧ HalfNext (restarting true) ∧
    ¬HalfNext (firing false 2) ∧ ¬HalfNext (restarting false) := by
  unfold HalfNext StepNext RestartNext; decide
/-- L2-FS-1: the frame interrupt at the steps 3 and 5 of the 4-step mode, not at step 2 and not in the 5-step mode. -/
theorem witness_FrameIrqNext : FrameIrqNext (firing false 3) ∧ FrameIrqNext (firing false 5) ∧
    ¬FrameIrqNext (firing false 2) ∧ ¬FrameIrqNext (firing true 3) := by
  unfold FrameIrqNext StepNext RestartNext InSteps; decide
/-- The hypothesis of every statement about a tick, in each case of the frame sequencer. -/
theorem witness_TickCompletes : ∀ s ∈ [s0, race, firing false 5, firing true 5, restarting true, restarting false],
    ∃ t, exec .tick s = .next t := fun _ _ => ⟨_, rfl⟩
/-- The clauses of TickClocksLengthCountersThenAppliesBufferedWrites. -/
theorem witness_LengthTicked : { live 40 with delayCounter := true }.delayCounter = true ∧
    (live 40).delayCounter = false ∧ (live 40).enable = true ∧ (live 40).halt = false ∧ (live 40).counter ≠ 0 ∧
    (live 0).counter = 0 := by decide

/-- R135: a clock that takes a counter to 0, and the same tick's silence (the half-frame clause of
TickClocksLengthCountersThenAppliesBufferedWrites). -/
theorem witness_LastClock : LastClock (live 1) ∧ ¬LastClock (live 2) ∧ ¬LastClock resetLength := by
  unfold LastClock; decide

/-- A pulse channel of period `p` that sounds if the sweep lets it. -/
def sounding (p : BitVec 11) : Pulse :=
  { resetPulse with len := live 254, sweep := { resetSweep with pulsePeriod := p } }

/-- R156, L2-SWP-2: muted below period 8 and above target $7FF, and not at 8 and $7FF. -/
theorem witness_Muted : Muted (sounding 7).sweep ∧ ¬Muted { (sounding 8).sweep with shift := 1 } ∧
    Muted { (sounding 0x556).sweep with shift := 1 } ∧ ¬Muted { (sounding 0x555).sweep with shift := 1 } ∧
    ¬Muted { (sounding 0x7FF).sweep with shift := 1, decrement := true } := by
  unfold Muted; decide
/-- The clauses of TickRunsThePulseChannels. -/
theorem witness_PulseTicked : (sounding 8).periodCounter.toNat = 1 ∧
    { sounding 8 with periodCounter := 2 }.periodCounter.toNat ≠ 1 ∧ resetPulse.len.counter = 0 ∧
    s0.cfg.timerRunsWhenSilent = false ∧ { s0.cfg with timerRunsWhenSilent := true }.timerRunsWhenSilent = true := by
  decide
theorem witness_TickRunsTheTriangle :
    let s : State := { s0 with tri := { s0.tri with len := live 254, linearLengthCounter := 1 } }
    (frameTick s).tri.len.counter ≠ 0 ∧ (frameTick s).tri.linearLengthCounter ≠ 0 ∧
    s.tri.periodCounter.toNat = 1 ∧ (frameTick s0).tri.len.counter = 0 := by decide
theorem witness_TickRunsTheNoiseChannel :
    let s : State := { s0 with noise := { s0.noise with len := live 254 } }
    (frameTick s).noise.len.counter ≠ 0 ∧ s.noise.periodCounter.toNat = 1 ∧ (frameTick s0).noise.len.counter = 0 := by
  decide
/-- A timer underflow at the last bit, with and without a buffered byte, and at another bit. -/
theorem witness_TickRunsTheDmc : s0.dmc.periodCounter.toNat = 1 ∧ s0.dmc.bitCounter.toNat ≠ 7 ∧
    { s0.dmc with bitCounter := 7, dmaBufferValid := true }.bitCounter.toNat = 7 ∧
    { s0.dmc with periodCounter := 2 }.periodCounter.toNat ≠ 1 := by decide
/-- L2-DMC-4: a tick that emits a request, and one that emits none. -/
theorem witness_TickRequestsAByteOnlyWhenOneIsNeeded :
    (after (exec .tick { s0 with dmc := { s0.dmc with
        readAddress := 0x4000, lengthCounter := 1, dmaDelayCounter := 1 } })).map (·.dmaRequest) =
      some (some 0xC000) ∧
    (after (exec .tick s0)).map (·.dmaRequest) = some none ∧ s0.cfg.busAddrExceptions = [] := by decide
/-- When a tick requests (R232, R234): the end of a start delay with the buffer empty, a wrap with the buffer full, and in
neither case with the other's buffer, while idle, or while a request is outstanding. -/
theorem witness_RequestNext :
    let d : Dmc := { resetDmc with lengthCounter := 1, dmaDelayCounter := 1 }
    let e : Dmc := { resetDmc with lengthCounter := 1, bitCounter := 7, dmaBufferValid := true }
    RequestNext { s0 with dmc := d } ∧ RequestNext { s0 with dmc := e } ∧
    ¬RequestNext { s0 with dmc := { d with dmaBufferValid := true } } ∧
    ¬RequestNext { s0 with dmc := { e with dmaBufferValid := false } } ∧
    ¬RequestNext { s0 with dmc := { d with lengthCounter := 0 } } ∧
    ¬RequestNext { s0 with dmc := { e with dmaOutstanding := true } } := by
  unfold RequestNext; decide
theorem witness_ExhaustedOrMutedChannelsAreSilent : (frameTick s0).p1.len.counter = 0 ∧
    (frameTick s0).p2.len.counter = 0 ∧ (frameTick s0).noise.len.counter = 0 ∧ (frameTick s0).tri.len.counter = 0 ∧
    (after (exec .rd4015 s0)).map (·.returned) = some (some 0) := by decide
/-- L2-LEN-4 and L2-LEN-6: a half-frame cycle with every length counter enabled and halted. -/
def raceHalted : State :=
  let l : LengthCounter := { live 40 with halt := true }
  { race with
    p1 := { race.p1 with len := l }, p2 := { race.p2 with len := l }
    tri := { race.tri with len := l }, noise := { race.noise with len := l } }

theorem witness_LengthWritesInAHalfFrameCycleLandAfterTheClock : HalfClockNext raceHalted ∧
    raceHalted.p1.len.enable = true ∧ raceHalted.p2.len.enable = true ∧
    raceHalted.tri.len.enable = true ∧ raceHalted.noise.len.enable = true ∧ raceHalted.p1.len.halt = true ∧
    raceHalted.p2.len.halt = true ∧ raceHalted.tri.len.halt = true ∧ raceHalted.noise.len.halt = true ∧
    raceHalted.p1.len.delayCounter = false ∧ raceHalted.p2.len.delayCounter = false ∧
    raceHalted.tri.len.delayCounter = false ∧ raceHalted.noise.len.delayCounter = false := by
  unfold HalfClockNext; decide

/-! ## Witnesses: sub-units and timing -/

theorem witness_ConstantVolumeIsTheSpeed : { resetEnvelope with useSpeedAsVolume := true }.useSpeedAsVolume = true ∧
    resetEnvelope.useSpeedAsVolume = false := by decide
theorem witness_EnvelopeVolumeNeverRisesWithoutARestart :
    resetEnvelope.useSpeedAsVolume = false ∧ resetEnvelope.loopMode = false ∧ resetEnvelope.reloadDecay = false := by decide
/-- L2-ENV-2: a restart pending without loop, and the last step to 0. -/
theorem witness_EnvelopeDecaysToZeroInItsTime :
    let e : Envelope := { resetEnvelope with reloadDecay := true }
    e.reloadDecay = true ∧ e.loopMode = false ∧ (envelopeClock e).decayVolume = 15 ∧
    (envelopeClock { resetEnvelope with decayVolume := 1 }).decayVolume = 0 := by decide
/-- L2-SWP-3 adding and L2-SWP-6 subtracting, and L2-SWP-5, where nothing is due. -/
theorem witness_SweepClockCommitsAndDivides :
    let w : Sweep := ⟨true, 3, false, 1, false, 0, 0x100⟩
    let v : Sweep := ⟨true, 1, true, 2, false, 0, 0x100⟩
    (w.counter.toNat = 0 ∧ w.enable = true ∧ w.shift.toNat > 0 ∧ ¬Muted w ∧ w.decrement = false) ∧
    (v.counter.toNat = 0 ∧ v.enable = true ∧ v.shift.toNat > 0 ∧ ¬Muted v ∧ v.decrement = true) ∧
    { w with shift := 0 }.shift.toNat = 0 := by
  unfold Muted; decide
theorem witness_LongModeNoiseHasPeriod32767 : (1 : BitVec 15) ≠ 0 ∧ (0x7FFF : BitVec 15) ≠ 0 := by decide
theorem witness_PulseAndTriangleTimersKeepTheirFrequency :
    { sounding 0x7FF with periodCounter := 4096 }.periodCounter.toNat = 2 * ((0x7FF : BitVec 11).toNat + 1) ∧
    { resetTriangle with periodCounter := 1 }.periodCounter.toNat = resetTriangle.period.toNat + 1 := by decide
/-- The hypothesis of ResetStateHasTheInvariant. -/
theorem witness_default_parameters_are_legal : ∀ r, (defaultConfigFor r).wf := by
  intro r; cases r <;> decide
/-- R165: a waveform table with a wrong number of ones is not legal. -/
theorem test_duty_table_weights : ¬dutyTableWf (Vector.replicate 4 (Vector.replicate 8 true)) ∧
    dutyTableWf defaultDutyTable := by decide
theorem witness_FrameSequenceRepeatsAfterItsPeriods : s0.cfg.tables.wf ∧ s0.fs.delay = false ∧ s0.fs.step = 0 ∧
    PeriodIs s0.cfg s0.fs.mode 0 s0.fs.counter ∧ 7456 < s0.fs.counter.toNat ∧ s0.fs.counter ≠ 0 :=
  ⟨(witness_default_parameters_are_legal .ntsc).1, rfl, rfl, rfl, by decide, by decide⟩

/-! ## Witnesses: whole-machine rules -/

/-- Each flag set and cleared by an event the list names. -/
theorem witness_InterruptFlagsChangeOnlyAsListed :
    (after (exec .tick (firing false 3))).map (·.fs.irqPending) = some true ∧ (firing false 3).fs.irqPending = false ∧
    (after (exec (.dmaDeliver 0) (awaiting 1 false true))).map (·.dmc.irqPending) = some true ∧
    (awaiting 1 false true).dmc.irqPending = false ∧
    (after (exec .rd4015 { s0 with fs := { s0.fs with irqPending := true } })).map (·.fs.irqPending) = some false ∧
    (after (exec (.wr4015 0) { s0 with dmc := { s0.dmc with irqPending := true } })).map (·.dmc.irqPending) =
      some false := by decide
theorem witness_InterruptEnablesMaskTheFlags :
    { s0.fs with irqInhibit := true }.irqInhibit = true ∧ (awaiting 1 false false).dmc.irqEnable = false ∧
    (firing false 3).fs.irqInhibit = false ∧ (firing false 3).fs.mode = false ∧
    (awaiting 1 false true).dmc.irqEnable = true ∧
    (after (exec (.dmaDeliver 0) (awaiting 1 false true))).isSome = true := by decide
theorem witness_reset_Inv : State.reset.Inv := by decide
/-- The same state serves EveryStepKeepsTheParametersAndTakesOneEvent. -/
theorem witness_EveryStepKeepsTheInvariant : (pending 0x2000000 s0).Inv ∧
    (after (step (pending 0x2000000 s0))).isSome = true := by decide
theorem witness_DutifulEventsAlwaysComplete : (pending 0x4000055 (awaiting 1 false true)).dutifulNext ∧
    (pending 0x2000000 s0).dutifulNext := by
  refine ⟨⟨_, _, rfl, fun why h => ?_, fun _ _ => by decide⟩, ⟨_, _, rfl, fun why h => ?_, fun d h => ?_⟩⟩
  · have : decode 0x4000055 = .instr (.dmaDeliver 0x55) := by decide
    exact absurd (this.symm.trans h) nofun
  · have : decode 0x2000000 = .instr .tick := by decide
    exact absurd (this.symm.trans h) nofun
  · have : decode 0x2000000 = .instr .tick := by decide
    exact absurd (this.symm.trans h) nofun
theorem witness_DmcTimingIgnoresDeliveries : s0.cfg = (awaiting 1 false true).cfg ∧
    s0.dmc.period = (awaiting 1 false true).dmc.period ∧
    s0.dmc.periodCounter = (awaiting 1 false true).dmc.periodCounter ∧
    s0.dmc.bitCounter = (awaiting 1 false true).dmc.bitCounter ∧
    (after (exec (.dmaDeliver 0) (awaiting 1 false true))).isSome = true := by decide
/-- L1-7. -/
theorem witness_OneByteSampleEndsIdleAndInterruptsOnce : bit 0x10 4 = true ∧ s0.dmc.lengthCounter = 0 ∧
    s0.dmc.lengthLatch = 0 ∧ (awaiting 1 false true).dmc.lengthCounter.toNat = 1 ∧
    (awaiting 1 false true).dmc.loopMode = false := by decide
/-- A request that a write leaves outstanding, and the responder's word for it. -/
theorem witness_ResponderDeliversTheByteAtTheRequestedAddress :
    (after (exec (.wr4013 1) (awaiting 1 false true))).map (·.dmc.dmaOutstanding) = some true ∧
    responderWord (fun _ => 0x55) (pending 0x4000055 (awaiting 1 false true)) = some 0x4000055 ∧
    (awaiting 1 false true).dmc.lengthCounter ≠ 0 := by decide
theorem witness_SaveStateRoundTrips : s0.LineIsFlags := by decide

end Sys2Proof.Tests
end

section
/-! PROOF. Taking the next event of the run (R91, R276), and what every event leaves of the parameters and the run
(R34, R278): the statement EveryStepKeepsTheParametersAndTakesOneEvent. -/

namespace Sys2Proof.Machine

/-- The machine that has taken the event `e` from its run, with `rest` left: what `fetch` hands to the meaning. -/
def State.take (s : State) (e : Input) (rest : List Input) : State :=
  { s with inputs := rest, draws := e.draws, eventCount := s.eventCount + 1, returned := none }

@[simp] theorem State.take_cfg (s : State) (e : Input) (rest : List Input) : (s.take e rest).cfg = s.cfg := rfl
@[simp] theorem State.take_inputs (s : State) (e : Input) (rest : List Input) : (s.take e rest).inputs = rest := rfl

theorem fetch_of_nil {s : State} (h : s.inputs = []) : fetch s = none := by
  simp [fetch, h]

theorem fetch_of_cons {s : State} {e : Input} {rest : List Input} (h : s.inputs = e :: rest) :
    fetch s = some (e.word, s.take e rest) := by
  simp [fetch, h, State.take]

/-- At the end of the run a step is refused (R91, log 1). -/
theorem step_of_nil {s : State} (h : s.inputs = []) : step s = .refused .endOfRun := by
  simp [step, fetch_of_nil h]

/-- A step applies the next event of the run to the machine that has taken it. -/
theorem step_of_cons {s : State} {e : Input} {rest : List Input} (h : s.inputs = e :: rest) :
    step s = applyDecoded (decode e.word) (s.take e rest) := by
  simp [step, fetch_of_cons h]

/-- All that a completed step can be: a row of the table carried out, or an access to an undecoded address (R92). -/
theorem step_next_cases {s t : State} (h : step s = .next t) : ∃ e rest, s.inputs = e :: rest ∧
    ((∃ i, decode e.word = .instr i ∧ exec i (s.take e rest) = .next t) ∨
      (∃ w a d, decode e.word = .foreign w a d ∧ t = s.take e rest)) := by
  cases hin : s.inputs with
  | nil => rw [step_of_nil hin] at h; cases h
  | cons e rest =>
    rw [step_of_cons hin] at h
    refine ⟨e, rest, rfl, ?_⟩
    cases hd : decode e.word with
    | instr i => rw [hd] at h; exact .inl ⟨i, rfl, h⟩
    | foreign w a d => rw [hd] at h; cases h; exact .inr ⟨w, a, d, rfl, rfl⟩
    | malformed why => rw [hd] at h; cases h

@[simp] theorem dmcSampleEnd_cfg (s : State) : (dmcSampleEnd s).cfg = s.cfg := by
  simp only [dmcSampleEnd]; split_ifs <;> rfl
@[simp] theorem dmcSampleEnd_inputs (s : State) : (dmcSampleEnd s).inputs = s.inputs := by
  simp only [dmcSampleEnd]; split_ifs <;> rfl

@[simp] theorem dmcDeliver_cfg (b : Byte) (s : State) : (dmcDeliver b s).cfg = s.cfg := by
  simp only [dmcDeliver]; split_ifs <;> simp
@[simp] theorem dmcDeliver_inputs (b : Byte) (s : State) : (dmcDeliver b s).inputs = s.inputs := by
  simp only [dmcDeliver]; split_ifs <;> simp

/-- A delivery that does not fault is an expected one, and does what R238 says (R306). -/
theorem execDmaDeliver_next {b : Byte} {s t : State} (h : execDmaDeliver b s = .next t) :
    s.deliveryExpected ∧ t = dmcDeliver b s := by
  unfold execDmaDeliver at h
  split_ifs at h with hreq hidle
  cases h
  exact ⟨⟨by simpa using hreq, hidle⟩, rfl⟩

/-- No event writes the parameters, and none touches the events that come after it. -/
theorem exec_keeps_cfg_and_inputs {i : Instr} {s t : State} (h : exec i s = .next t) :
    t.cfg = s.cfg ∧ t.inputs = s.inputs := by
  cases i with
  | dmaDeliver b =>
    obtain ⟨-, rfl⟩ := execDmaDeliver_next h
    exact ⟨dmcDeliver_cfg b s, dmcDeliver_inputs b s⟩
  | tick => cases h; rw [tick_eq]; exact ⟨rfl, rfl⟩
  | wr4010 d => cases h; split_ifs <;> exact ⟨rfl, rfl⟩
  | wr4017 d => cases h; split_ifs <;> exact ⟨rfl, rfl⟩
  | _ => cases h; exact ⟨rfl, rfl⟩

end Sys2Proof.Machine

namespace Sys2Proof.Spec

open Sys2Proof.Machine

/-- Settles O56: a step takes the head of the run, and no event writes the parameters or the rest of the run. -/
theorem everyStepKeepsTheParametersAndTakesOneEvent : Obligations.EveryStepKeepsTheParametersAndTakesOneEvent := by
  intro s t h
  obtain ⟨e, rest, hin, ⟨i, -, hexec⟩ | ⟨w, a, d, -, rfl⟩⟩ := step_next_cases h
  · obtain ⟨hcfg, hinputs⟩ := exec_keeps_cfg_and_inputs hexec
    exact ⟨hcfg, e, by rw [hinputs, State.take_inputs, hin]⟩
  · exact ⟨rfl, e, hin⟩

end Sys2Proof.Spec
end

section
/-! PROOF. The save-state boundary (R41): the statement SaveStateRoundTrips. -/

namespace Sys2Proof.Machine

/-- Where the line already is the OR of the flags, driving it again changes nothing (R302). -/
theorem updateIrq_of_lineIsFlags {s : State} (h : s.LineIsFlags) : updateIrq s = s := by
  rw [updateIrq, ← h]

theorem updateIrq_lineIsFlags (s : State) : (updateIrq s).LineIsFlags := rfl

end Sys2Proof.Machine

namespace Sys2Proof.Spec

open Sys2Proof.Machine

/-- Settles O60: a restore writes exactly the fields that a save reads, and then drives the line. -/
theorem saveStateRoundTrips : Obligations.SaveStateRoundTrips :=
  ⟨fun _ _ => ⟨rfl, rfl, updateIrq_lineIsFlags _⟩, fun _ h => updateIrq_of_lineIsFlags h⟩

end Sys2Proof.Spec
end

section
/-! PROOF. The invariant of the machine between events (R33, R38, R235, R302, R201, R30, D28), unit by unit: what each
operation of a unit keeps of that unit's invariant. -/

namespace Sys2Proof.Machine

/-! ## Length counter (R38) -/

/-- R131: a disable empties the counter and its buffered load, whatever they held. -/
theorem lengthSetEnable_inv (v : Bool) (l : LengthCounter) : (lengthSetEnable v l).Inv := by
  cases v with
  | true => exact nofun
  | false => exact fun _ => ⟨rfl, rfl⟩

theorem LengthCounter.Inv.setHalt {l : LengthCounter} (h : l.Inv) (lc v : Bool) : (lengthSetHalt lc v l).Inv := by
  cases lc <;> exact h

/-- A load reaches an enabled counter only. -/
theorem LengthCounter.Inv.setCounter {l : LengthCounter} (h : l.Inv) (c : Config) (lc : Bool) (i : BitVec 5) :
    (lengthSetCounter c lc i l).Inv := by
  unfold lengthSetCounter
  split_ifs with hen
  · exact fun hdis => absurd (hen.symm.trans hdis) nofun
  · exact fun hdis => absurd (hen.symm.trans hdis) nofun
  · exact h

/-- The half-frame clock counts an enabled counter only. -/
theorem LengthCounter.Inv.main {l : LengthCounter} (h : l.Inv) : (lengthMain l).Inv := by
  unfold lengthMain
  split_ifs with hrun
  · exact fun hdis => absurd (hrun.1.symm.trans hdis) nofun
  · exact h

theorem LengthCounter.Inv.applyHalt {l : LengthCounter} (h : l.Inv) : (lengthApplyHalt l).Inv := by
  unfold lengthApplyHalt
  split_ifs <;> exact h

/-- A buffered load lands in an enabled counter only, since a disabled one has nothing buffered. -/
theorem LengthCounter.Inv.applyCounter {l : LengthCounter} (h : l.Inv) (c : Config) : (lengthApplyCounter c l).Inv := by
  unfold lengthApplyCounter
  split_ifs with hbuf
  · exact fun hdis => absurd (hbuf.symm.trans (h hdis).2) nofun
  · exact h

theorem LengthCounter.Inv.applyPending {l : LengthCounter} (h : l.Inv) (c : Config) : (lengthApplyPending c l).Inv :=
  h.applyHalt.applyCounter c

theorem LengthCounter.Inv.halfFrame {l : LengthCounter} (h : l.Inv) (half : Bool) :
    (if half then lengthMain l else l).Inv := by
  cases half with
  | true => exact h.main
  | false => exact h

/-! ## Pulse channels -/

/-- R166: the timer's reload `(period + 1) * 2` fits 16 bits and is not 0. -/
theorem pulseReload_ne_zero (p : BitVec 11) : (p.setWidth 16 + 1) * 2 ≠ 0 := by
  have := p.isLt
  bv_omega

theorem pulseTimerStep_periodCounter_ne_zero (p : Pulse) : (pulseTimerStep p).periodCounter ≠ 0 := by
  simp only [pulseTimerStep]
  split_ifs with hzero
  · exact pulseReload_ne_zero p.sweep.pulsePeriod
  · exact hzero

theorem Pulse.Inv.timerStep {p : Pulse} (h : p.Inv) : (pulseTimerStep p).Inv :=
  ⟨by rw [pulseTimerStep_len]; exact h.1, pulseTimerStep_periodCounter_ne_zero p⟩

theorem Pulse.Inv.advance {p : Pulse} (h : p.Inv) (c : Config) (ch : PulseId) : (pulseAdvance c ch p).Inv := by
  unfold pulseAdvance
  split_ifs
  · exact h.timerStep
  · exact h
  · exact h.timerStep

theorem Pulse.Inv.frame {p : Pulse} (h : p.Inv) (c : Config) (ch : PulseId) (ev : FrameEvents) :
    (pulseFrame c ch ev p).Inv :=
  ⟨h.1.halfFrame ev.half, h.2⟩

/-! ## Triangle -/

/-- R187: the timer's reload `period + 1` fits 16 bits and is not 0. -/
theorem triReload_ne_zero (p : BitVec 11) : p.setWidth 16 + 1 ≠ 0 := by
  have := p.isLt
  bv_omega

theorem triTimerStep_periodCounter_ne_zero (t : Triangle) : (triTimerStep t).periodCounter ≠ 0 := by
  simp only [triTimerStep]
  split_ifs with hzero
  · exact triReload_ne_zero t.period
  · exact hzero

theorem Triangle.Inv.advance {t : Triangle} (h : t.Inv) : (triAdvance t).Inv := by
  unfold triAdvance
  split_ifs
  · exact h
  · exact ⟨by rw [triTimerStep_len]; exact h.1, triTimerStep_periodCounter_ne_zero t⟩

theorem Triangle.Inv.frame {t : Triangle} (h : t.Inv) (ev : FrameEvents) : (triFrame ev t).Inv := by
  unfold triFrame
  split_ifs
  · exact ⟨h.1.main, h.2⟩
  · exact h
  · exact ⟨h.1.main, h.2⟩
  · exact h

/-! ## Noise channel -/

/-- R201: the step shifts every bit down by one. -/
theorem lfsrNext_getLsbD_of_lt (short : Bool) (x : BitVec 15) {i : Nat} (hi : i < 14) :
    (lfsrNext short x).getLsbD i = x.getLsbD (i + 1) := by
  simp only [lfsrNext, BitVec.getLsbD_append]
  simp [hi, Nat.add_comm]

/-- R201: the bit fed back enters at the top. -/
theorem lfsrNext_getLsbD_top (short : Bool) (x : BitVec 15) :
    (lfsrNext short x).getLsbD 14 = (x.getLsbD 0 ^^ x.getLsbD (if short then 6 else 1)) := by
  simp only [lfsrNext, BitVec.getLsbD_append]
  cases short <;> simp

/-- R201: no step takes the shift register to 0. If all bits but bit 0 are 0, it is bit 0 that is fed back. -/
theorem lfsrNext_ne_zero (short : Bool) {x : BitVec 15} (h : x ≠ 0) : lfsrNext short x ≠ 0 := by
  intro hzero
  have hupper : ∀ i < 14, x.getLsbD (i + 1) = false := fun i hi => by
    rw [← lfsrNext_getLsbD_of_lt short x hi, hzero]; exact BitVec.getLsbD_zero
  have htap : x.getLsbD (if short then 6 else 1) = false := by
    cases short with
    | true => exact hupper 5 (by decide)
    | false => exact hupper 0 (by decide)
  have hlow : x.getLsbD 0 = false := by
    have htop := lfsrNext_getLsbD_top short x
    rw [hzero, htap, Bool.xor_false] at htop
    exact htop.symm
  refine h (BitVec.eq_of_getLsbD_eq fun i hi => Eq.trans ?_ BitVec.getLsbD_zero.symm)
  cases i with
  | zero => exact hlow
  | succ i => exact hupper i (by omega)

theorem Noise.Inv.timerStep {n : Noise} (h : n.Inv) {c : Config} (hc : c.wf) : (noiseTimerStep c n).Inv := by
  obtain ⟨hlen, hlfsr, -⟩ := h
  simp only [noiseTimerStep]
  split_ifs with hzero
  · exact ⟨hlen, lfsrNext_ne_zero n.shortMode hlfsr, noiseReload_ne_zero c hc n.period⟩
  · exact ⟨hlen, hlfsr, hzero⟩

theorem Noise.Inv.advance {n : Noise} (h : n.Inv) {c : Config} (hc : c.wf) : (noiseAdvance c n).Inv := by
  unfold noiseAdvance
  split_ifs
  · exact h.timerStep hc
  · exact h
  · exact h.timerStep hc

theorem Noise.Inv.frame {n : Noise} (h : n.Inv) (ev : FrameEvents) : (noiseFrame ev n).Inv :=
  ⟨h.1.halfFrame ev.half, h.2⟩

/-! ## DMC -/

/-- R30, R116: no sample is longer than 4081 bytes. -/
theorem dmcStartLength_le (latch : BitVec 8) : (dmcStartLength latch).toNat ≤ 4081 := by
  have := latch.isLt
  rw [dmcStartLength_toNat]
  omega

theorem Dmc.Inv.loadSample {d : Dmc} (h : d.Inv) : (dmcLoadSample d).Inv := by
  obtain ⟨hrequest, -, htimer⟩ := h
  exact ⟨hrequest, dmcStartLength_le d.lengthLatch, htimer⟩

theorem Dmc.Inv.start {d : Dmc} (h : d.Inv) (n : BitVec 2) : (dmcStart n d).Inv := by
  by_cases hidle : d.lengthCounter = 0
  · rw [dmcStart_idle n d hidle]
    exact h.loadSample
  · rw [dmcStart_playing n d hidle]
    exact h

theorem Dmc.Inv.stop {d : Dmc} (h : d.Inv) : (dmcStop d).Inv := by
  obtain ⟨hrequest, -, htimer⟩ := h
  exact ⟨hrequest, Nat.zero_le _, htimer⟩

theorem Dmc.Inv.receive {d : Dmc} (h : d.Inv) (hplaying : d.lengthCounter ≠ 0) (b : Byte) : (dmcReceive b d).Inv := by
  obtain ⟨-, hlength, htimer⟩ := h
  refine ⟨nofun, ?_, htimer⟩
  have hlt := d.lengthCounter.isLt
  change (d.lengthCounter - 1).toNat ≤ 4081
  bv_omega

/-- R232: the timer counted down by one, before it is looked at. -/
def DmcTick.countDown (x : DmcTick) : DmcTick :=
  { x with dmc := { x.dmc with periodCounter := x.dmc.periodCounter - 1 } }

/-- R232: the timer's step, in terms of the timer counted down. -/
theorem dmcTimerStep_eq (c : Config) (x : DmcTick) : dmcTimerStep c x =
    if x.countDown.dmc.periodCounter = 0 then
      { dmcUnderflow c.dacEdge x.countDown with dmc :=
        { (dmcUnderflow c.dacEdge x.countDown).dmc with
          periodCounter := dmcReload c (dmcUnderflow c.dacEdge x.countDown).dmc.period } }
    else x.countDown := rfl

/-- R235: a request is outstanding only with the buffer empty. -/
def Dmc.RequestInv (d : Dmc) : Prop := d.dmaOutstanding = true → d.dmaBufferValid = false

/-- A request is made only with the buffer empty (R234). -/
theorem Dmc.RequestInv.requestIfNeeded {x : DmcTick} (h : x.dmc.RequestInv) :
    (requestIfNeeded x).dmc.RequestInv := by
  rw [requestIfNeeded_eq]
  intro hout
  rcases Bool.or_eq_true_iff.mp hout with hout | hwant
  · exact h hout
  · simp only [dmcWantsByte, Bool.and_eq_true, Bool.not_eq_true'] at hwant
    exact hwant.1.2

theorem Dmc.RequestInv.delayStep {x : DmcTick} (h : x.dmc.RequestInv) : (dmcDelayStep x).dmc.RequestInv := by
  simp only [dmcDelayStep]
  split_ifs
  · exact h
  · exact Dmc.RequestInv.requestIfNeeded h
  · exact h

/-- The wraparound empties the buffer before it asks for the next byte (R232). -/
theorem Dmc.RequestInv.wrap {x : DmcTick} (h : x.dmc.RequestInv) : (dmcWrap x).dmc.RequestInv := by
  unfold dmcWrap
  split_ifs
  · exact Dmc.RequestInv.requestIfNeeded fun _ => rfl
  · exact h

theorem Dmc.RequestInv.underflow {x : DmcTick} (h : x.dmc.RequestInv) (edge : DacEdge) :
    (dmcUnderflow edge x).dmc.RequestInv := by
  simp only [dmcUnderflow]
  split_ifs
  · exact Dmc.RequestInv.wrap h
  · exact h

theorem Dmc.RequestInv.timerStep {x : DmcTick} (h : x.dmc.RequestInv) (c : Config) :
    (dmcTimerStep c x).dmc.RequestInv := by
  rw [dmcTimerStep_eq]
  split_ifs
  · exact Dmc.RequestInv.underflow (x := x.countDown) h c.dacEdge
  · exact h

theorem dmcTimerStep_periodCounter_ne_zero {c : Config} (hc : c.wf) (x : DmcTick) :
    (dmcTimerStep c x).dmc.periodCounter ≠ 0 := by
  rw [dmcTimerStep_eq]
  split_ifs with hzero
  · exact dmcReload_ne_zero c hc _
  · exact hzero

/-- The DMC with every field that its clock may write at its reset value: what is left is what the clock only reads. -/
def Dmc.unclocked (d : Dmc) : Dmc :=
  { resetDmc with
    irqEnable := d.irqEnable
    loopMode := d.loopMode
    period := d.period
    addressLatch := d.addressLatch
    lengthLatch := d.lengthLatch
    readAddress := d.readAddress
    lengthCounter := d.lengthCounter
    dmaBuffer := d.dmaBuffer
    irqPending := d.irqPending
    triggered := d.triggered
    triggeredStop := d.triggeredStop }

theorem Dmc.unclocked_lengthCounter (d : Dmc) : d.unclocked.lengthCounter = d.lengthCounter := rfl
theorem Dmc.unclocked_irqPending (d : Dmc) : d.unclocked.irqPending = d.irqPending := rfl

theorem requestIfNeeded_unclocked (x : DmcTick) : (requestIfNeeded x).dmc.unclocked = x.dmc.unclocked := by
  rw [requestIfNeeded_eq]; rfl

theorem dmcDelayStep_unclocked (x : DmcTick) : (dmcDelayStep x).dmc.unclocked = x.dmc.unclocked := by
  simp only [dmcDelayStep]
  split_ifs
  · rfl
  · rw [requestIfNeeded_unclocked]; rfl
  · rfl

theorem dmcWrap_unclocked (x : DmcTick) : (dmcWrap x).dmc.unclocked = x.dmc.unclocked := by
  unfold dmcWrap
  split_ifs
  · rw [requestIfNeeded_unclocked]; rfl
  · rfl

theorem dmcUnderflow_unclocked (edge : DacEdge) (x : DmcTick) :
    (dmcUnderflow edge x).dmc.unclocked = x.dmc.unclocked := by
  simp only [dmcUnderflow]
  split_ifs
  · rw [dmcWrap_unclocked]; rfl
  · rfl

theorem dmcTimerStep_unclocked (c : Config) (x : DmcTick) : (dmcTimerStep c x).dmc.unclocked = x.dmc.unclocked := by
  rw [dmcTimerStep_eq]
  split_ifs
  · exact dmcUnderflow_unclocked c.dacEdge x.countDown
  · rfl

/-- R232: the clock leaves the length, the latches, the flags and the buffered byte unchanged. -/
theorem dmcAdvance_unclocked (c : Config) (d : Dmc) : (dmcAdvance c d).dmc.unclocked = d.unclocked :=
  (dmcTimerStep_unclocked c _).trans (dmcDelayStep_unclocked _)

@[simp] theorem dmcAdvance_lengthCounter (c : Config) (d : Dmc) :
    (dmcAdvance c d).dmc.lengthCounter = d.lengthCounter := by
  rw [← Dmc.unclocked_lengthCounter, dmcAdvance_unclocked, Dmc.unclocked_lengthCounter]
@[simp] theorem dmcAdvance_irqPending (c : Config) (d : Dmc) :
    (dmcAdvance c d).dmc.irqPending = d.irqPending := by
  rw [← Dmc.unclocked_irqPending, dmcAdvance_unclocked, Dmc.unclocked_irqPending]

theorem Dmc.Inv.advance {d : Dmc} (h : d.Inv) {c : Config} (hc : c.wf) : (dmcAdvance c d).dmc.Inv := by
  obtain ⟨hrequest, hlength, -⟩ := h
  have hdelayed : (dmcDelayStep ⟨d, none⟩).dmc.RequestInv := Dmc.RequestInv.delayStep hrequest
  exact ⟨hdelayed.timerStep c, by rwa [dmcAdvance_lengthCounter], dmcTimerStep_periodCounter_ne_zero hc _⟩

/-! ## Frame sequencer -/

/-- R33, R252: the step after any step is 0 to 5. -/
theorem nextFrameStep_le (k : BitVec 3) : (nextFrameStep k).toNat ≤ 5 := by
  rw [nextFrameStep, BitVec.toNat_ofNat]
  omega

/-- R259: a restart brings the invariant about by itself. -/
theorem frameRestart_inv {c : Config} (hc : c.wf) (f : FrameSequencer) : (frameRestart c f).Inv :=
  ⟨Nat.zero_le 5, framePeriod_ne_zero c hc f.mode 0, nofun⟩

theorem FrameSequencer.Inv.count {f : FrameSequencer} (h : f.Inv) {c : Config} (hc : c.wf) : (frameCount c f).Inv := by
  obtain ⟨hstep, hcounter, hdelay⟩ := h
  unfold frameCount
  split_ifs with hone
  · exact ⟨nextFrameStep_le f.step, framePeriod_ne_zero c hc f.mode _, hdelay⟩
  · refine ⟨hstep, ?_, hdelay⟩
    change f.counter - 1 ≠ 0
    bv_omega

/-- A pending reset that does not expire in this tick has delay count 1 after it (R258). -/
theorem FrameSequencer.Inv.delayStep {f : FrameSequencer} (h : f.Inv) (hexp : ¬frameExpires f = true) :
    (frameDelayStep f).Inv := by
  obtain ⟨hstep, hcounter, hdelay⟩ := h
  unfold frameDelayStep
  split_ifs with hpending
  · refine ⟨hstep, hcounter, fun _ => .inl ?_⟩
    rcases hdelay hpending with h1 | h2
    · exact absurd (by rw [frameExpires, hpending, h1]; rfl) hexp
    · change f.delayCounter - 1 = 1
      rw [h2]; rfl
  · exact ⟨hstep, hcounter, hdelay⟩

theorem FrameSequencer.Inv.next {f : FrameSequencer} (h : f.Inv) {c : Config} (hc : c.wf) : (frameNext c f).Inv := by
  unfold frameNext
  split_ifs with hexp
  · exact frameRestart_inv hc _
  · exact (h.delayStep hexp).count hc

/-- Stepping the sequencer leaves its interrupt flag; a tick sets it apart from that (R252). -/
@[simp] theorem frameNext_irqPending (c : Config) (f : FrameSequencer) : (frameNext c f).irqPending = f.irqPending := by
  simp only [frameNext, frameRestart, frameCount, frameDelayStep]
  split_ifs <;> rfl

/-- R258: the drawn delay is 1 or 2, whatever the draw. -/
theorem frameDelayDraw_eq (s : State) : frameDelayDraw s = 1 ∨ frameDelayDraw s = 2 := by
  unfold frameDelayDraw
  split
  · exact .inl rfl
  · exact .inr rfl

end Sys2Proof.Machine
end

section
/-! PROOF. The invariant of the whole machine: what each event keeps of it, and the statement
EveryStepKeepsTheInvariant. -/

namespace Sys2Proof.Machine

/-- The invariant but for the line: an event may leave the line behind its flags until it drives it (R302). -/
structure State.UnitsInv (s : State) : Prop where
  cfg : s.cfg.wf
  p1 : s.p1.Inv
  p2 : s.p2.Inv
  tri : s.tri.Inv
  noise : s.noise.Inv
  dmc : s.dmc.Inv
  fs : s.fs.Inv

theorem State.inv_iff (s : State) : s.Inv ↔ s.UnitsInv ∧ s.LineIsFlags := by
  constructor
  · rintro ⟨hcfg, hp1, hp2, htri, hnoise, hdmc, hfs, hline⟩
    exact ⟨⟨hcfg, hp1, hp2, htri, hnoise, hdmc, hfs⟩, hline⟩
  · rintro ⟨⟨hcfg, hp1, hp2, htri, hnoise, hdmc, hfs⟩, hline⟩
    exact ⟨hcfg, hp1, hp2, htri, hnoise, hdmc, hfs, hline⟩

theorem State.Inv.units {s : State} (h : s.Inv) : s.UnitsInv := (s.inv_iff.mp h).1

theorem State.Inv.line {s : State} (h : s.Inv) : s.LineIsFlags := (s.inv_iff.mp h).2

/-! ## Replacing a unit -/

theorem State.UnitsInv.withPulse {s : State} (h : s.UnitsInv) (ch : PulseId) {p : Pulse} (hp : p.Inv) :
    (s.withPulse ch p).UnitsInv := by
  cases ch with
  | p1 => exact { h with p1 := hp }
  | p2 => exact { h with p2 := hp }

theorem State.UnitsInv.withDmc {s : State} (h : s.UnitsInv) {d : Dmc} (hd : d.Inv) : (s.withDmc d).UnitsInv :=
  { h with dmc := hd }

theorem State.UnitsInv.withFs {s : State} (h : s.UnitsInv) {f : FrameSequencer} (hf : f.Inv) :
    (s.withFs f).UnitsInv :=
  { h with fs := hf }

/-- Driving the line completes the invariant. -/
theorem State.UnitsInv.updateIrq {s : State} (h : s.UnitsInv) : (updateIrq s).Inv :=
  (State.inv_iff _).mpr ⟨{ h with }, updateIrq_lineIsFlags s⟩

theorem State.Inv.withPulse {s : State} (h : s.Inv) (ch : PulseId) {p : Pulse} (hp : p.Inv) :
    (s.withPulse ch p).Inv :=
  (State.inv_iff _).mpr ⟨h.units.withPulse ch hp, by cases ch <;> exact h.line⟩

theorem State.Inv.withTri {s : State} (h : s.Inv) {t : Triangle} (ht : t.Inv) : (s.withTri t).Inv :=
  (State.inv_iff _).mpr ⟨{ h.units with tri := ht }, h.line⟩

theorem State.Inv.withNoise {s : State} (h : s.Inv) {n : Noise} (hn : n.Inv) : (s.withNoise n).Inv :=
  (State.inv_iff _).mpr ⟨{ h.units with noise := hn }, h.line⟩

/-- A change of the DMC that leaves its interrupt flag leaves the line right. -/
theorem State.Inv.withDmc {s : State} (h : s.Inv) {d : Dmc} (hd : d.Inv) (hirq : d.irqPending = s.dmc.irqPending) :
    (s.withDmc d).Inv :=
  (State.inv_iff _).mpr ⟨h.units.withDmc hd, by simpa [State.LineIsFlags, hirq] using h.line⟩

/-- A change of the frame sequencer that leaves its interrupt flag leaves the line right. -/
theorem State.Inv.withFs {s : State} (h : s.Inv) {f : FrameSequencer} (hf : f.Inv)
    (hirq : f.irqPending = s.fs.irqPending) : (s.withFs f).Inv :=
  (State.inv_iff _).mpr ⟨h.units.withFs hf, by simpa [State.LineIsFlags, hirq] using h.line⟩

theorem State.Inv.clearFrameIrq {s : State} (h : s.Inv) : (clearFrameIrq s).Inv :=
  State.UnitsInv.updateIrq { h.units with }

theorem State.Inv.clearDmcIrq {s : State} (h : s.Inv) : (clearDmcIrq s).Inv :=
  State.UnitsInv.updateIrq { h.units with }

theorem State.Inv.setDmcIrq {s : State} (h : s.Inv) : (setDmcIrq s).Inv :=
  State.UnitsInv.updateIrq { h.units with }

theorem State.Inv.returnByte {s : State} (h : s.Inv) (v : Byte) : (returnByte v s).Inv := h

theorem State.Inv.take {s : State} (h : s.Inv) (e : Input) (rest : List Input) : (s.take e rest).Inv := h

/-! ## The events -/

theorem State.Inv.wr4010 {s t : State} (h : s.Inv) {d : Byte} (ht : execWr4010 d s = .next t) : t.Inv := by
  have hwritten := h.withDmc (d := { s.dmc with
    irqEnable := dmcIrqField d, loopMode := dmcLoopField d, period := periodIndexField d }) h.units.dmc rfl
  cases ht
  split_ifs
  · exact hwritten
  · exact hwritten.clearDmcIrq

theorem State.UnitsInv.writeEnables {s : State} (h : s.UnitsInv) (d : Byte) : (writeEnables d s).UnitsInv where
  cfg := h.cfg
  p1 := ⟨lengthSetEnable_inv _ _, h.p1.2⟩
  p2 := ⟨lengthSetEnable_inv _ _, h.p2.2⟩
  tri := ⟨lengthSetEnable_inv _ _, h.tri.2⟩
  noise := ⟨lengthSetEnable_inv _ _, h.noise.2⟩
  dmc := h.dmc
  fs := h.fs

theorem State.Inv.wr4015 {s t : State} (h : s.Inv) {d : Byte} (ht : execWr4015 d s = .next t) : t.Inv := by
  have henabled := h.units.writeEnables d
  have hcleared := henabled.withDmc (d := { (writeEnables d s).dmc with irqPending := false }) henabled.dmc
  cases ht
  refine State.UnitsInv.updateIrq (hcleared.withDmc ?_)
  split_ifs
  · exact hcleared.dmc.start _
  · exact hcleared.dmc.stop

/-- R258: a restart of the sequence is put off by a delay of 1 or 2. -/
theorem State.Inv.delayRestart {s : State} (h : s.Inv) :
    (s.withFs { s.fs with delay := true, delayCounter := frameDelayDraw s }).Inv := by
  obtain ⟨hstep, hcounter, -⟩ := h.units.fs
  exact h.withFs ⟨hstep, hcounter, fun _ => frameDelayDraw_eq s⟩ rfl

theorem State.Inv.wr4017 {s t : State} (h : s.Inv) {d : Byte} (ht : execWr4017 d s = .next t) : t.Inv := by
  have hmode := h.withFs (f := { s.fs with mode := frameModeField d, irqInhibit := frameInhibitField d }) h.units.fs rfl
  cases ht
  split_ifs
  · exact hmode.clearFrameIrq.delayRestart
  · exact hmode.delayRestart

theorem State.Inv.dmcSampleEnd {s : State} (h : s.Inv) : (dmcSampleEnd s).Inv := by
  unfold Machine.dmcSampleEnd
  split_ifs
  · exact h.withDmc h.units.dmc.loadSample rfl
  · exact h.setDmcIrq
  · exact h

theorem State.Inv.dmcDeliver {s : State} (h : s.Inv) (hplaying : s.dmc.lengthCounter ≠ 0) (b : Byte) :
    (dmcDeliver b s).Inv := by
  have hreceived := h.withDmc (h.units.dmc.receive hplaying b) rfl
  simp only [Machine.dmcDeliver]
  split_ifs
  · exact hreceived.dmcSampleEnd
  · exact hreceived

theorem resetPulse_inv : resetPulse.Inv := by decide
theorem resetTriangle_inv : resetTriangle.Inv := by decide
theorem resetNoise_inv : resetNoise.Inv := by decide
theorem resetDmc_inv : resetDmc.Inv := by decide
theorem resetFrame_inv {c : Config} (hc : c.wf) : (resetFrame c).Inv :=
  ⟨Nat.zero_le 5, framePeriod_ne_zero c hc false 0, nofun⟩

/-- Power-on and reset bring the invariant about by themselves, for legal parameters (R330). -/
theorem applyReset_inv {s : State} (hc : s.cfg.wf) : (applyReset s).Inv :=
  State.UnitsInv.updateIrq
    { cfg := hc
      p1 := resetPulse_inv
      p2 := resetPulse_inv
      tri := resetTriangle_inv
      noise := resetNoise_inv
      dmc := resetDmc_inv
      fs := resetFrame_inv hc }

/-- R254, R302: a tick of the frame sequencer drives the line when it sets the flag. -/
theorem frameTick_lineIsFlags {s : State} (h : s.LineIsFlags) : (frameTick s).LineIsFlags := by
  rw [State.LineIsFlags, frameTick_irq, frameTick_fs, frameTick_dmc, frameNext_irqPending]
  split_ifs with hirq
  · simp [hirq]
  · simpa [hirq] using h

theorem State.Inv.tick {s : State} (h : s.Inv) : (tick s).Inv := by
  obtain ⟨hcfg, hp1, hp2, htri, hnoise, hdmc, hfs⟩ := h.units
  have hp1' : (frameTick s).p1.Inv := by rw [frameTick_p1]; exact hp1.frame _ _ _
  have hp2' : (frameTick s).p2.Inv := by rw [frameTick_p2]; exact hp2.frame _ _ _
  have htri' : (frameTick s).tri.Inv := by rw [frameTick_tri]; exact htri.frame _
  have hnoise' : (frameTick s).noise.Inv := by rw [frameTick_noise]; exact hnoise.frame _
  have hfs' : (frameTick s).fs.Inv := by rw [frameTick_fs]; exact hfs.next hcfg
  have hline : (frameTick s).irq = ((frameTick s).fs.irqPending || (dmcAdvance s.cfg s.dmc).dmc.irqPending) := by
    rw [dmcAdvance_irqPending, ← frameTick_dmc]; exact frameTick_lineIsFlags h.line
  rw [tick_eq]
  exact ⟨hcfg, ⟨hp1'.1.applyPending _, (hp1'.advance _ _).2⟩, ⟨hp2'.1.applyPending _, (hp2'.advance _ _).2⟩,
    ⟨htri'.1.applyPending _, htri'.advance.2⟩, ⟨hnoise'.1.applyPending _, (hnoise'.advance hcfg).2⟩,
    hdmc.advance hcfg, hfs', hline⟩

/-- Every event keeps the invariant. -/
theorem State.Inv.exec {i : Instr} {s t : State} (h : s.Inv) (ht : exec i s = .next t) : t.Inv := by
  obtain ⟨hcfg, hp1, hp2, htri, hnoise, hdmc, hfs⟩ := h.units
  cases i with
  | wr4000 d => cases ht; exact h.withPulse .p1 ⟨hp1.1.setHalt _ _, hp1.2⟩
  | wr4001 d => cases ht; exact h.withPulse .p1 hp1
  | wr4002 d => cases ht; exact h.withPulse .p1 hp1
  | wr4003 d => cases ht; exact h.withPulse .p1 ⟨hp1.1.setCounter _ _ _, hp1.2⟩
  | wr4004 d => cases ht; exact h.withPulse .p2 ⟨hp2.1.setHalt _ _, hp2.2⟩
  | wr4005 d => cases ht; exact h.withPulse .p2 hp2
  | wr4006 d => cases ht; exact h.withPulse .p2 hp2
  | wr4007 d => cases ht; exact h.withPulse .p2 ⟨hp2.1.setCounter _ _ _, hp2.2⟩
  | wr4008 d => cases ht; exact h.withTri ⟨htri.1.setHalt _ _, htri.2⟩
  | wr4009 d => cases ht; exact h
  | wr400A d => cases ht; exact h.withTri htri
  | wr400B d => cases ht; exact h.withTri ⟨htri.1.setCounter _ _ _, htri.2⟩
  | wr400C d => cases ht; exact h.withNoise ⟨hnoise.1.setHalt _ _, hnoise.2⟩
  | wr400D d => cases ht; exact h
  | wr400E d => cases ht; exact h.withNoise hnoise
  | wr400F d => cases ht; exact h.withNoise ⟨hnoise.1.setCounter _ _ _, hnoise.2⟩
  | wr4010 d => exact h.wr4010 ht
  | wr4011 d => cases ht; exact h.withDmc hdmc rfl
  | wr4012 d => cases ht; exact h.withDmc hdmc rfl
  | wr4013 d => cases ht; exact h.withDmc hdmc rfl
  | wr4015 d => exact h.wr4015 ht
  | wr4017 d => exact h.wr4017 ht
  | rd4015 => cases ht; exact (h.returnByte _).clearFrameIrq
  | rdOpen4000 a => cases ht; exact h.returnByte _
  | rdOpen4010 a => cases ht; exact h.returnByte _
  | rdOpen4017 => cases ht; exact h.returnByte _
  | tick => cases ht; exact h.tick
  | dmaDeliver b =>
    obtain ⟨⟨-, hplaying⟩, rfl⟩ := execDmaDeliver_next ht
    exact h.dmcDeliver hplaying b
  | power => cases ht; exact applyReset_inv hcfg
  | reset => cases ht; exact applyReset_inv hcfg

end Sys2Proof.Machine

namespace Sys2Proof.Spec

open Sys2Proof.Machine

/-- Settles O53: taking an event touches no unit, an undecoded access does nothing more, and every event of the table
keeps the invariant unit by unit. -/
theorem everyStepKeepsTheInvariant : Obligations.EveryStepKeepsTheInvariant := by
  intro s t hs h
  obtain ⟨e, rest, -, ⟨i, -, hexec⟩ | ⟨w, a, d, -, rfl⟩⟩ := step_next_cases h
  · exact (hs.take e rest).exec hexec
  · exact hs.take e rest

end Sys2Proof.Spec
end

section
/-! PROOF. Register reads (R76, R285, R288): what a read of each decoded address does, and the statement
OnlyTheStatusReadHasASideEffect. -/

namespace Sys2Proof.Machine

/-- R285: the status byte goes back as it was before the flag is cleared. -/
theorem exec_rd4015 (s : State) :
    exec .rd4015 s = .next (clearFrameIrq (returnByte (statusByte (openBusDraw s) s) s)) := rfl

/-- R288: a read of a decoded address other than $4015 returns the open-bus draw and does nothing else. -/
theorem exec_openRead {i : Instr} (s : State) (h : (∃ a, i = .rdOpen4000 a ∨ i = .rdOpen4010 a) ∨ i = .rdOpen4017) :
    exec i s = .next (returnByte (openBusDraw s) s) := by
  obtain ⟨a, rfl | rfl⟩ | rfl := h
  · rfl
  · rfl
  · rfl

end Sys2Proof.Machine

namespace Sys2Proof.Spec

open Sys2Proof.Machine

/-- Settles O22: the status read ends by clearing the frame interrupt flag, and every other read only puts a byte on
the bus. -/
theorem onlyTheStatusReadHasASideEffect : Obligations.OnlyTheStatusReadHasASideEffect := by
  intro s
  constructor
  · exact ⟨_, exec_rd4015 s, by rw [clearFrameIrq_fs]⟩
  · intro i hread
    exact ⟨_, exec_openRead s hread, rfl⟩

end Sys2Proof.Spec
end


section
/-! PROOF. What decoding answers for each class of word (R90, R92, R120), and the statements DecodingInvertsEncoding,
MalformedWordsAreThoseWithAFieldSetThatMustBeZero and SpecWordsDecodeToTheirEvents. -/

namespace Sys2Proof

/-! ## The fields of a word as numbers (R90) -/

theorem eventKind_toNat (w : EventWord) : (eventKind w).toNat = w.toNat / 2 ^ 25 := by
  have := w.isLt
  rw [eventKind, BitVec.extractLsb'_toNat, Nat.shiftRight_eq_div_pow]
  omega

theorem eventWrite_eq_true_iff (w : EventWord) : eventWrite w = true ↔ w.toNat / 2 ^ 24 % 2 = 1 := by
  rw [eventWrite, BitVec.getLsbD, Nat.testBit_eq_decide_div_mod_eq, decide_eq_true_iff]

theorem eventWrite_eq_false_iff (w : EventWord) : eventWrite w = false ↔ w.toNat / 2 ^ 24 % 2 = 0 := by
  rw [← Bool.not_eq_true, eventWrite_eq_true_iff]
  omega

theorem eventAddr_toNat (w : EventWord) : (eventAddr w).toNat = w.toNat / 2 ^ 8 % 2 ^ 16 := by
  rw [eventAddr, BitVec.extractLsb'_toNat, Nat.shiftRight_eq_div_pow]

theorem eventData_toNat (w : EventWord) : (eventData w).toNat = w.toNat % 2 ^ 8 := by
  rw [eventData, BitVec.extractLsb'_toNat, Nat.shiftRight_zero]

theorem eventKind_eq_iff (w : EventWord) (k : BitVec 2) : eventKind w = k ↔ w.toNat / 2 ^ 25 = k.toNat := by
  rw [← BitVec.toNat_inj, eventKind_toNat]

theorem eventData_eq_iff (w : EventWord) (d : Byte) : eventData w = d ↔ w.toNat % 2 ^ 8 = d.toNat := by
  rw [← BitVec.toNat_inj, eventData_toNat]

/-- Bits 24:8 are 0 exactly if `W` and `A` are. -/
theorem writeAndAddr_eq_zero_iff (w : EventWord) :
    (eventWrite w = false ∧ eventAddr w = 0) ↔ w.toNat % 2 ^ 25 / 2 ^ 8 = 0 := by
  rw [eventWrite_eq_false_iff, ← BitVec.toNat_inj, eventAddr_toNat,
    show (0 : BusAddr).toNat = 0 from rfl]
  omega

/-- Bits 24:0 are the number `d` exactly if `D` is and the fields above it are 0. -/
theorem lowFields_eq_iff (w : EventWord) (d : Byte) :
    (eventWrite w = false ∧ eventAddr w = 0 ∧ eventData w = d) ↔ w.toNat % 2 ^ 25 = d.toNat := by
  have := d.isLt
  rw [← and_assoc, writeAndAddr_eq_zero_iff, eventData_eq_iff]
  omega

/-- The four kinds of event are all there are. -/
theorem eventKind_cases (w : EventWord) :
    eventKind w = 0 ∨ eventKind w = 1 ∨ eventKind w = 2 ∨ eventKind w = 3 := by
  generalize eventKind w = k
  revert k
  decide

/-! ## The rows of the open-bus reads (R94) -/

theorem inRow4000_iff (a : BusAddr) : inRow4000 a = true ↔ 0x4000 ≤ a.toNat ∧ a.toNat ≤ 0x400F := by
  have := a.isLt
  rw [inRow4000, beq_iff_eq, ← BitVec.toNat_inj, BitVec.extractLsb'_toNat, Nat.shiftRight_eq_div_pow,
    BitVec.toNat_ofNat]
  omega

theorem inRow4010_iff (a : BusAddr) : inRow4010 a = true ↔ 0x4010 ≤ a.toNat ∧ a.toNat ≤ 0x4013 := by
  have := a.isLt
  rw [inRow4010, beq_iff_eq, ← BitVec.toNat_inj, BitVec.extractLsb'_toNat, Nat.shiftRight_eq_div_pow,
    BitVec.toNat_ofNat]
  omega

/-! ## `decode` by the kind of the word (R90) -/

section
variable {w : EventWord}

theorem decode_of_write (hk : eventKind w = 0) (hw : eventWrite w = true) :
    decode w = decodeWrite (eventAddr w) (eventData w) := by
  rw [decode, if_pos hk, if_pos hw]

theorem decode_of_read (hk : eventKind w = 0) (hw : eventWrite w = false) :
    decode w = if eventData w = 0 then decodeRead (eventAddr w) else .malformed .readData := by
  rw [decode, if_pos hk, if_neg (by simp [hw])]

theorem decode_of_tick (hk : eventKind w = 1) :
    decode w = if eventWrite w = false ∧ eventAddr w = 0 ∧ eventData w = 0 then .instr .tick
      else .malformed .tickFields := by
  simp [decode, hk]

theorem decode_of_deliver (hk : eventKind w = 2) :
    decode w = if eventWrite w = false ∧ eventAddr w = 0 then .instr (.dmaDeliver (eventData w))
      else .malformed .deliverFields := by
  simp [decode, hk]

theorem decode_of_power (hk : eventKind w = 3) :
    decode w = if eventWrite w = false ∧ eventAddr w = 0 ∧ eventData w = 0 then .instr .power
      else if eventWrite w = false ∧ eventAddr w = 0 ∧ eventData w = 1 then .instr .reset
      else .malformed .powerFields := by
  simp [decode, hk]

/-- A word that is an event under a condition and else malformed is malformed exactly where the condition fails. -/
theorem ite_instr_malformed_iff {c : Prop} [Decidable c] {i : Instr} {x : Decoded} :
    (∃ why, (if c then .instr i else x) = .malformed why) ↔ ¬c ∧ ∃ why, x = .malformed why := by
  split_ifs with h <;> simp [h]

/-- R120 for a tick: no field below `K` may be set. -/
theorem decode_tick_malformed_iff (hk : eventKind w = 1) :
    (∃ why, decode w = .malformed why) ↔ w.toNat % 2 ^ 25 ≠ 0 := by
  rw [decode_of_tick hk, ite_instr_malformed_iff, lowFields_eq_iff]
  simp

/-- R120 for a delivery: `D` is the byte, and the fields above it may not be set. -/
theorem decode_deliver_malformed_iff (hk : eventKind w = 2) :
    (∃ why, decode w = .malformed why) ↔ w.toNat % 2 ^ 25 / 2 ^ 8 ≠ 0 := by
  rw [decode_of_deliver hk, ite_instr_malformed_iff, writeAndAddr_eq_zero_iff]
  simp

/-- R120 for a power or reset event: bit 0 says which of the two, and no other bit below `K` may be set. -/
theorem decode_power_malformed_iff (hk : eventKind w = 3) :
    (∃ why, decode w = .malformed why) ↔ w.toNat % 2 ^ 25 / 2 ≠ 0 := by
  rw [decode_of_power hk, ite_instr_malformed_iff, ite_instr_malformed_iff, lowFields_eq_iff, lowFields_eq_iff]
  simp only [BitVec.ofNat_eq_ofNat, BitVec.toNat_ofNat, Decoded.malformed.injEq, exists_eq', and_true]
  omega

end

/-- Decoding an encoded well-formed event gives it back, whichever row it is of. -/
theorem decode_encode : ∀ i : Instr, Laws.RoundTrip.Statement i
  | .wr4000 d => Laws.RoundTrip.wr4000 d
  | .wr4001 d => Laws.RoundTrip.wr4001 d
  | .wr4002 d => Laws.RoundTrip.wr4002 d
  | .wr4003 d => Laws.RoundTrip.wr4003 d
  | .wr4004 d => Laws.RoundTrip.wr4004 d
  | .wr4005 d => Laws.RoundTrip.wr4005 d
  | .wr4006 d => Laws.RoundTrip.wr4006 d
  | .wr4007 d => Laws.RoundTrip.wr4007 d
  | .wr4008 d => Laws.RoundTrip.wr4008 d
  | .wr4009 d => Laws.RoundTrip.wr4009 d
  | .wr400A d => Laws.RoundTrip.wr400A d
  | .wr400B d => Laws.RoundTrip.wr400B d
  | .wr400C d => Laws.RoundTrip.wr400C d
  | .wr400D d => Laws.RoundTrip.wr400D d
  | .wr400E d => Laws.RoundTrip.wr400E d
  | .wr400F d => Laws.RoundTrip.wr400F d
  | .wr4010 d => Laws.RoundTrip.wr4010 d
  | .wr4011 d => Laws.RoundTrip.wr4011 d
  | .wr4012 d => Laws.RoundTrip.wr4012 d
  | .wr4013 d => Laws.RoundTrip.wr4013 d
  | .wr4015 d => Laws.RoundTrip.wr4015 d
  | .wr4017 d => Laws.RoundTrip.wr4017 d
  | .rd4015 => Laws.RoundTrip.rd4015
  | .rdOpen4000 a => Laws.RoundTrip.rdOpen4000 a
  | .rdOpen4010 a => Laws.RoundTrip.rdOpen4010 a
  | .rdOpen4017 => Laws.RoundTrip.rdOpen4017
  | .tick => Laws.RoundTrip.tick
  | .dmaDeliver d => Laws.RoundTrip.dmaDeliver d
  | .power => Laws.RoundTrip.power
  | .reset => Laws.RoundTrip.reset

end Sys2Proof

namespace Sys2Proof.Spec

/-- R92, R94: a write to a decoded address is the event that the write encodes; any other is an undecoded access. -/
theorem decodeWrite_cases (a : BusAddr) (d : Byte) :
    (DecodedAddr a ∧ ∃ i, decodeWrite a d = .instr i ∧ i.wf = true ∧ encode i = writeWord a d) ∨
    (¬DecodedAddr a ∧ decodeWrite a d = .foreign true a d) := by
  unfold decodeWrite
  split
  case h_23 =>
    refine .inr ⟨?_, rfl⟩
    unfold DecodedAddr
    simp only [imp_false, ← BitVec.toNat_inj, BitVec.toNat_ofNat] at *
    omega
  all_goals exact .inl ⟨by unfold DecodedAddr; decide, _, rfl, rfl, rfl⟩

/-- R92, R94: a read of a decoded address is the event that the read encodes; any other is an undecoded access. -/
theorem decodeRead_cases (a : BusAddr) :
    (DecodedAddr a ∧ ∃ i, decodeRead a = .instr i ∧ i.wf = true ∧ encode i = readWord a) ∨
    (¬DecodedAddr a ∧ decodeRead a = .foreign false a 0) := by
  unfold decodeRead
  split_ifs with h15 h00 h10 h17
  · subst h15
    exact .inl ⟨by unfold DecodedAddr; decide, _, rfl, rfl, rfl⟩
  · obtain ⟨hlo, hhi⟩ := (inRow4000_iff a).mp h00
    exact .inl ⟨.inl ⟨hlo, hhi.trans (by decide)⟩, _, rfl, h00, rfl⟩
  · obtain ⟨hlo, hhi⟩ := (inRow4010_iff a).mp h10
    exact .inl ⟨.inl ⟨le_trans (by decide) hlo, hhi⟩, _, rfl, h10, rfl⟩
  · subst h17
    exact .inl ⟨by unfold DecodedAddr; decide, _, rfl, rfl, rfl⟩
  · refine .inr ⟨?_, rfl⟩
    rw [inRow4000_iff] at h00
    rw [inRow4010_iff] at h10
    unfold DecodedAddr
    bv_omega

/-- R92: a legal bus access is a row of the table exactly if its address is decoded, and the word is that row's. -/
theorem decode_busAccess_cases {w : EventWord} (hk : eventKind w = 0)
    (hlegal : eventWrite w = true ∨ eventData w = 0) :
    (DecodedAddr (eventAddr w) ∧ ∃ i, decode w = .instr i ∧ i.wf = true ∧ encode i = w) ∨
    (¬DecodedAddr (eventAddr w) ∧ ∃ wr d, decode w = .foreign wr (eventAddr w) d) := by
  cases hw : eventWrite w with
  | true =>
    have hword : w = writeWord (eventAddr w) (eventData w) := eq_eventWord hk hw rfl rfl
    rw [decode_of_write hk hw]
    obtain ⟨ha, i, hi, hwf, henc⟩ | ⟨ha, hd⟩ := decodeWrite_cases (eventAddr w) (eventData w)
    · exact .inl ⟨ha, i, hi, hwf, henc.trans hword.symm⟩
    · exact .inr ⟨ha, _, _, hd⟩
  | false =>
    have hdata : eventData w = 0 := hlegal.resolve_left (by simp [hw])
    have hword : w = readWord (eventAddr w) := eq_eventWord hk hw rfl hdata
    rw [decode_of_read hk hw, if_pos hdata]
    obtain ⟨ha, i, hi, hwf, henc⟩ | ⟨ha, hd⟩ := decodeRead_cases (eventAddr w)
    · exact .inl ⟨ha, i, hi, hwf, henc.trans hword.symm⟩
    · exact .inr ⟨ha, _, _, hd⟩

/-- R90, R120: a bus access is malformed exactly if it is a read with a data byte. -/
theorem decode_busAccess_malformed_iff {w : EventWord} (hk : eventKind w = 0) :
    (∃ why, decode w = .malformed why) ↔ eventWrite w = false ∧ eventData w ≠ 0 := by
  constructor
  · rintro ⟨why, h⟩
    by_contra hgood
    have hlegal : eventWrite w = true ∨ eventData w = 0 := by
      rwa [not_and, ← Bool.not_eq_true, not_ne_iff, ← or_iff_not_imp_left] at hgood
    obtain ⟨-, i, hi, -⟩ | ⟨-, wr, d, hd⟩ := decode_busAccess_cases hk hlegal
    · cases hi.symm.trans h
    · cases hd.symm.trans h
  · rintro ⟨hw, hdata⟩
    exact ⟨_, by rw [decode_of_read hk hw, if_neg hdata]⟩

/-- A word that decodes to an event is the encoding of that event, which is well formed. -/
theorem wf_and_encode_of_decode {w : EventWord} {i : Instr} (h : decode w = .instr i) :
    i.wf = true ∧ encode i = w := by
  obtain hk | hk | hk | hk := eventKind_cases w
  · have hlegal : eventWrite w = true ∨ eventData w = 0 := by
      by_contra hbad
      rw [not_or, Bool.not_eq_true] at hbad
      obtain ⟨why, hm⟩ := (decode_busAccess_malformed_iff hk).mpr hbad
      cases hm.symm.trans h
    obtain ⟨-, j, hj, hwf⟩ | ⟨-, wr, d, hd⟩ := decode_busAccess_cases hk hlegal
    · cases hj.symm.trans h
      exact hwf
    · cases hd.symm.trans h
  · rw [decode_of_tick hk] at h
    split_ifs at h with hfields
    obtain ⟨hw, ha, hd⟩ := hfields
    cases h
    exact ⟨rfl, (eq_eventWord hk hw ha hd).symm⟩
  · rw [decode_of_deliver hk] at h
    split_ifs at h with hfields
    obtain ⟨hw, ha⟩ := hfields
    cases h
    exact ⟨rfl, (eq_eventWord hk hw ha rfl).symm⟩
  · rw [decode_of_power hk] at h
    split_ifs at h with hpower hreset
    · obtain ⟨hw, ha, hd⟩ := hpower
      cases h
      exact ⟨rfl, (eq_eventWord hk hw ha hd).symm⟩
    · obtain ⟨hw, ha, hd⟩ := hreset
      cases h
      exact ⟨rfl, (eq_eventWord hk hw ha hd).symm⟩

/-- Settles O2: what decodes is encoded back by the case of its kind, and each row's encoding decodes to it. -/
theorem decodingInvertsEncoding : Obligations.DecodingInvertsEncoding := by
  intro w i
  constructor
  · exact wf_and_encode_of_decode
  · rintro ⟨hwf, rfl⟩
    exact decode_encode i hwf

/-- Settles O4: by the kind of the word, each field that must be 0 read as the number its bits are. -/
theorem malformedWordsAreThoseWithAFieldSetThatMustBeZero :
    Obligations.MalformedWordsAreThoseWithAFieldSetThatMustBeZero := by
  intro w
  obtain hk | hk | hk | hk := eventKind_cases w
  · have hkind : w.toNat / 2 ^ 25 = 0 := (eventKind_eq_iff w 0).mp hk
    have hdata : eventData w ≠ 0 ↔ w.toNat % 2 ^ 8 ≠ 0 := (eventData_eq_iff w 0).not
    rw [decode_busAccess_malformed_iff hk, eventWrite_eq_false_iff, hdata]
    omega
  · have hkind : w.toNat / 2 ^ 25 = 1 := (eventKind_eq_iff w 1).mp hk
    rw [decode_tick_malformed_iff hk]
    omega
  · have hkind : w.toNat / 2 ^ 25 = 2 := (eventKind_eq_iff w 2).mp hk
    rw [decode_deliver_malformed_iff hk]
    omega
  · have hkind : w.toNat / 2 ^ 25 = 3 := (eventKind_eq_iff w 3).mp hk
    rw [decode_power_malformed_iff hk]
    omega

/-- Settles O1: each word is evaluated. -/
theorem specWordsDecodeToTheirEvents : Obligations.SpecWordsDecodeToTheirEvents := by
  unfold Obligations.SpecWordsDecodeToTheirEvents
  decide

end Sys2Proof.Spec
end

section
/-! PROOF. What a step does with the word it takes (R91, R92, R120, R276): the statements StepExecutesTheDecodedEvent,
BusAccessesReachTheirRegisterOrChangeNothing and MalformedWordsAndEmptyRunsAreRefused. -/

namespace Sys2Proof.Machine

section
variable {s : State} {e : Input} {rest : List Input}

theorem step_of_instr {i : Instr} (h : s.inputs = e :: rest) (hd : decode e.word = .instr i) :
    step s = exec i (s.take e rest) := by
  rw [step_of_cons h, hd, applyDecoded]

theorem step_of_foreign {wr : Bool} {a : BusAddr} {d : Byte} (h : s.inputs = e :: rest)
    (hd : decode e.word = .foreign wr a d) : step s = .next (s.take e rest) := by
  rw [step_of_cons h, hd, applyDecoded, foreignAccess]

theorem step_of_malformed {why : BadWord} (h : s.inputs = e :: rest) (hd : decode e.word = .malformed why) :
    step s = .refused (.malformedEvent why) := by
  rw [step_of_cons h, hd, applyDecoded]

end

end Sys2Proof.Machine

namespace Sys2Proof.Spec

open Sys2Proof.Machine

theorem taken_eq_take (s : State) (e : Input) (rest : List Input) : taken s e rest = s.take e rest := rfl

/-- Settles O5: the word decodes to the event, and `exec` gets the machine that `fetch` leaves. -/
theorem stepExecutesTheDecodedEvent : Obligations.StepExecutesTheDecodedEvent := by
  intro s e rest i hin hd
  rw [taken_eq_take, step_of_instr hin hd]

/-- Settles O6: a legal access to a decoded address is a row of the table, whose encoding is the word itself, and any
other is an undecoded access. -/
theorem busAccessesReachTheirRegisterOrChangeNothing :
    Obligations.BusAccessesReachTheirRegisterOrChangeNothing := by
  intro s e rest hin hk hlegal
  rw [taken_eq_take]
  obtain ⟨ha, i, hi, -, henc⟩ | ⟨ha, wr, d, hd⟩ := decode_busAccess_cases hk hlegal
  · exact ⟨fun _ => ⟨i, hi, by rw [henc], step_of_instr hin hi⟩, fun hnot => absurd ha hnot⟩
  · exact ⟨fun hdec => absurd hdec ha, fun _ => step_of_foreign hin hd⟩

/-- Settles O7: a step refuses a word that decodes to nothing legal, and a run that is at its end. -/
theorem malformedWordsAndEmptyRunsAreRefused : Obligations.MalformedWordsAndEmptyRunsAreRefused :=
  ⟨fun _ _ _ _ => step_of_malformed, fun _ => step_of_nil⟩

end Sys2Proof.Spec
end

section
/-! PROOF. The opcode table (R118): which words each row matches, and the statement DecodingFollowsTheOpcodeTable. -/

namespace Sys2Proof

/-! ## Masking a word -/

/-- A mask acts on each field of R90 by itself. -/
theorem and_eventWord (w : EventWord) (mk : BitVec 2) (mw : Bool) (ma : BusAddr) (md : Byte) :
    w &&& eventWord mk mw ma md =
      eventWord (eventKind w &&& mk) (eventWrite w && mw) (eventAddr w &&& ma) (eventData w &&& md) := by
  conv_lhs => rw [← eventWord_fields w]
  exact BitVec.and_append.trans (by rw [BitVec.and_append, BitVec.and_append, BitVec.ofBool_and_ofBool, eventWord])

/-- An assembled word is `w` exactly if its fields are those of `w`. -/
theorem eventWord_eq_iff {w : EventWord} {k : BitVec 2} {wr : Bool} {a : BusAddr} {d : Byte} :
    eventWord k wr a d = w ↔ k = eventKind w ∧ wr = eventWrite w ∧ a = eventAddr w ∧ d = eventData w := by
  constructor
  · rintro rfl
    simp
  · rintro ⟨rfl, rfl, rfl, rfl⟩
    exact eventWord_fields w

/-- Clearing the low bits of an address rounds it down. -/
theorem and_allOnes_shiftLeft_toNat (a : BusAddr) (n : Nat) :
    (a &&& BitVec.allOnes 16 <<< n).toNat = a.toNat / 2 ^ n * 2 ^ n := by
  have hle := Nat.div_mul_le_self a.toNat (2 ^ n)
  rw [← BitVec.shiftLeft_ushiftRight, BitVec.toNat_shiftLeft, BitVec.toNat_ushiftRight, Nat.shiftLeft_eq,
    Nat.shiftRight_eq_div_pow, Nat.mod_eq_of_lt (hle.trans_lt a.isLt)]

theorem inRow4000_iff_mask (a : BusAddr) : inRow4000 a = true ↔ a &&& 0xFFF0 = 0x4000 := by
  rw [inRow4000_iff, ← BitVec.toNat_inj, show (0xFFF0 : BusAddr) = BitVec.allOnes 16 <<< 4 by decide,
    and_allOnes_shiftLeft_toNat, show (0x4000 : BusAddr).toNat = 0x4000 by decide]
  omega

theorem inRow4010_iff_mask (a : BusAddr) : inRow4010 a = true ↔ a &&& 0xFFFC = 0x4010 := by
  rw [inRow4010_iff, ← BitVec.toNat_inj, show (0xFFFC : BusAddr) = BitVec.allOnes 16 <<< 2 by decide,
    and_allOnes_shiftLeft_toNat, show (0x4010 : BusAddr).toNat = 0x4010 by decide]
  omega

/-! ## What a row matches -/

/-- A row matches exactly the words that encode the event it builds. -/
def OpcodeRow.Exact (r : OpcodeRow) : Prop :=
  ∀ w, w &&& r.mask = r.bits ↔ ((r.build w).wf = true ∧ encode (r.build w) = w)

/-- A row without an operand matches one word. -/
theorem exact_of_word {i : Instr} (hwf : i.wf = true) : OpcodeRow.Exact ⟨encode i, 0x7FFFFFF, fun _ => i⟩ := by
  intro w
  have hmask : w &&& 0x7FFFFFF = w := BitVec.and_allOnes
  simp only [hmask, hwf, true_and]
  exact eq_comm

/-- A row whose operand is the data byte fixes the other three fields. -/
theorem exact_of_data {bits : EventWord} {k : BitVec 2} {wr : Bool} {a : BusAddr} {build : Byte → Instr}
    (hwf : ∀ d, (build d).wf = true) (henc : ∀ d, encode (build d) = eventWord k wr a d)
    (hbits : bits = eventWord k wr a 0) : OpcodeRow.Exact ⟨bits, 0x7FFFF00, fun w => build (eventData w)⟩ := by
  intro w
  have hk : eventKind w &&& 3 = eventKind w := BitVec.and_allOnes
  have ha : eventAddr w &&& 0xFFFF = eventAddr w := BitVec.and_allOnes
  have hmatch : w &&& 0x7FFFF00 = eventWord k wr a 0 ↔ k = eventKind w ∧ wr = eventWrite w ∧ a = eventAddr w := by
    rw [show (0x7FFFF00 : EventWord) = eventWord 3 true 0xFFFF 0 by decide, and_eventWord, hk, Bool.and_true, ha]
    simp [eventWord_eq_iff, eq_comm]
  simp only [hbits, hmatch, hwf, henc, eventWord_eq_iff, and_true, true_and]

/-- A row whose operand is the address matches the reads of its addresses. -/
theorem exact_of_addr {bits wmask : EventWord} {base mask : BusAddr} {build : BusAddr → Instr}
    (hwf : ∀ a, (build a).wf = true ↔ a &&& mask = base) (henc : ∀ a, encode (build a) = readWord a)
    (hbits : bits = readWord base) (hmask : wmask = eventWord 3 true mask 0xFF) :
    OpcodeRow.Exact ⟨bits, wmask, fun w => build (eventAddr w)⟩ := by
  intro w
  have hk : eventKind w &&& 3 = eventKind w := BitVec.and_allOnes
  have hd : eventData w &&& 0xFF = eventData w := BitVec.and_allOnes
  have hmatch : w &&& eventWord 3 true mask 0xFF = readWord base ↔
      eventKind w = 0 ∧ eventWrite w = false ∧ eventAddr w &&& mask = base ∧ eventData w = 0 := by
    rw [and_eventWord, hk, Bool.and_true, hd]
    simp [eventWord_eq_iff, readWord]
  have hread : readWord (eventAddr w) = w ↔ 0 = eventKind w ∧ false = eventWrite w ∧ 0 = eventData w := by
    simp [eventWord_eq_iff, readWord]
  rw [hbits, hmask, hmatch, hwf, henc, hread]
  constructor
  · rintro ⟨hkind, hwrite, haddr, hdata⟩
    exact ⟨haddr, hkind.symm, hwrite.symm, hdata.symm⟩
  · rintro ⟨haddr, hkind, hwrite, hdata⟩
    exact ⟨hkind.symm, hwrite.symm, haddr, hdata.symm⟩

/-- R118: the rows of the register writes, each by the address in its bits. -/
theorem writeRows_exact : ∀ r ∈ writeRows, r.Exact := by
  simp only [writeRows, List.cons_append, List.nil_append, List.forall_mem_cons, List.not_mem_nil, false_imp_iff,
    imp_true_iff, and_true]
  and_intros
  all_goals exact exact_of_data (fun _ => rfl) (fun _ => rfl) rfl

/-- R118: the rows of the reads and of the other events, each with the shape of its operand. -/
theorem otherRows_exact : ∀ r ∈ otherRows, r.Exact := by
  simp only [otherRows, List.forall_mem_cons, List.not_mem_nil, false_imp_iff, imp_true_iff, and_true]
  exact ⟨exact_of_word (i := .rd4015) rfl, exact_of_addr inRow4000_iff_mask (fun _ => rfl) rfl rfl,
    exact_of_addr inRow4010_iff_mask (fun _ => rfl) rfl rfl, exact_of_word (i := .rdOpen4017) rfl,
    exact_of_word (i := .tick) rfl, exact_of_data (fun _ => rfl) (fun _ => rfl) rfl,
    exact_of_word (i := .power) rfl, exact_of_word (i := .reset) rfl⟩

/-- Every event is built by a row of the table from its own encoding. -/
theorem exists_row_build_encode (i : Instr) : ∃ r ∈ opcodeRows, r.build (encode i) = i := by
  simp only [opcodeRows, writeRows, otherRows, List.cons_append, List.nil_append, List.mem_cons, exists_eq_or_imp]
  cases i <;> simp only [encode, writeWord, readWord, dmaWord, eventData_eventWord, eventAddr_eventWord, reduceCtorEq,
    true_or, or_true]

end Sys2Proof

namespace Sys2Proof.Spec

/-- A row of the table matches exactly the words that decode to the event it builds. -/
theorem opcodeRow_matches_iff_decode {r : OpcodeRow} (hr : r ∈ opcodeRows) (w : EventWord) :
    w &&& r.mask = r.bits ↔ decode w = .instr (r.build w) := by
  have hexact : r.Exact := (List.mem_append.mp hr).elim (writeRows_exact r) (otherRows_exact r)
  rw [decodingInvertsEncoding w, hexact w]

/-- The first row that matches builds the event that the word decodes to. -/
theorem decode_of_decodeByTable {w : EventWord} {i : Instr} (h : decodeByTable w = some i) : decode w = .instr i := by
  obtain ⟨r, hfind, rfl⟩ := Option.map_eq_some_iff.mp h
  have hmatch : (w &&& r.mask == r.bits) = true :=
    List.find?_some (p := fun r : OpcodeRow => w &&& r.mask == r.bits) hfind
  exact (opcodeRow_matches_iff_decode (List.mem_of_find?_eq_some hfind) w).mp (beq_iff_eq.mp hmatch)

/-- Some row of the table matches every word that decodes to an event. -/
theorem decodeByTable_isSome_of_decode {w : EventWord} {i : Instr} (h : decode w = .instr i) :
    (decodeByTable w).isSome = true := by
  obtain ⟨-, rfl⟩ := wf_and_encode_of_decode h
  obtain ⟨r, hr, hbuild⟩ := exists_row_build_encode i
  have hmatch := (opcodeRow_matches_iff_decode hr (encode i)).mpr (by rw [h, hbuild])
  rw [decodeByTable, Option.isSome_map, List.find?_isSome]
  exact ⟨r, hr, beq_iff_eq.mpr hmatch⟩

/-- Settles O3: a word that decodes to an event has a first row that matches, and that row builds this event. -/
theorem decodingFollowsTheOpcodeTable : Obligations.DecodingFollowsTheOpcodeTable := by
  intro w i
  constructor
  · intro h
    obtain ⟨j, hj⟩ := Option.isSome_iff_exists.mp (decodeByTable_isSome_of_decode h)
    cases (decode_of_decodeByTable hj).symm.trans h
    exact hj
  · exact decode_of_decodeByTable

end Sys2Proof.Spec
end

section
/-! PROOF. The length counter (R134, R135): its half-frame clock, the buffered writes that land at the end of a tick, and
the statement LengthCounterCountsDownUnlessHalted. -/

namespace Sys2Proof.Machine

theorem lengthMain_of_counting {l : LengthCounter} (h : l.enable = true ∧ l.halt = false ∧ l.counter ≠ 0) :
    lengthMain l = { l with counter := l.counter - 1 } := if_pos h

theorem lengthMain_of_not_counting {l : LengthCounter} (h : ¬(l.enable = true ∧ l.halt = false ∧ l.counter ≠ 0)) :
    lengthMain l = l := if_neg h

/-- R135: the half-frame clock writes the counter only. -/
theorem lengthMain_frame (l : LengthCounter) : lengthMain l = { l with counter := (lengthMain l).counter } := by
  unfold lengthMain; split_ifs <;> rfl

theorem lengthMain_counter_toNat (l : LengthCounter) : (lengthMain l).counter.toNat =
    if l.enable = true ∧ l.halt = false then l.counter.toNat - 1 else l.counter.toNat := by
  by_cases hcount : l.enable = true ∧ l.halt = false ∧ l.counter ≠ 0
  · obtain ⟨hen, hhalt, hne⟩ := hcount
    rw [lengthMain_of_counting ⟨hen, hhalt, hne⟩, if_pos ⟨hen, hhalt⟩]
    bv_omega
  · rw [lengthMain_of_not_counting hcount]
    split_ifs with hrun
    · obtain ⟨hen, hhalt⟩ := hrun
      have hzero : l.counter = 0 := not_not.mp fun hne => hcount ⟨hen, hhalt, hne⟩
      rw [hzero]; rfl
    · rfl

/-- R134: a buffered halt replaces the halt, a buffered load replaces the counter, and neither stays buffered. -/
theorem lengthApplyPending_eq (c : Config) (l : LengthCounter) : lengthApplyPending c l = { l with
    halt := if l.delayHalt then l.newHalt else l.halt
    counter := if l.delayCounter then lengthEntry c l.counterIndex else l.counter
    delayHalt := false
    delayCounter := false } := by
  obtain ⟨counter, halt, enable, delayHalt, newHalt, delayCounter, counterIndex⟩ := l
  cases delayHalt <;> cases delayCounter <;> rfl

end Sys2Proof.Machine

namespace Sys2Proof.Spec

open Sys2Proof.Machine

/-- Settles O38: a counter that counts is not 0 and goes down by one; one that stays is stopped or is 0 already. -/
theorem lengthCounterCountsDownUnlessHalted : Obligations.LengthCounterCountsDownUnlessHalted :=
  fun l => ⟨lengthMain_frame l, lengthMain_counter_toNat l⟩

end Sys2Proof.Spec
end

section
/-! PROOF. Silent channels (R136, R40): what a length counter at 0, or a sweep whose period check fails, does to its
channel in a tick and to the status byte, and the statement ExhaustedOrMutedChannelsAreSilent. -/

namespace Sys2Proof.Machine

theorem eq_tick_of_exec {s t : State} (h : exec .tick s = .next t) : t = tick s := by
  cases h; rfl

/-- R277, R281: the levels are those of the channels as the frame sequencer leaves them. -/
theorem tick_out (s : State) : (tick s).out =
    { p1 := pulseLevel s.cfg .p1 (frameTick s).p1
      p2 := pulseLevel s.cfg .p2 (frameTick s).p2
      tri := triValue (frameTick s).tri.stepCounter
      noise := noiseLevel (frameTick s).noise
      dmc := s.dmc.dacLatch } := by
  rw [tick_eq]

theorem tick_tri_stepCounter (s : State) : (tick s).tri.stepCounter = (triAdvance (frameTick s).tri).stepCounter := by
  rw [tick_eq]

theorem tick_tri_periodCounter (s : State) :
    (tick s).tri.periodCounter = (triAdvance (frameTick s).tri).periodCounter := by
  rw [tick_eq]

@[simp] theorem frameTick_tri_stepCounter (s : State) : (frameTick s).tri.stepCounter = s.tri.stepCounter := by
  rw [frameTick_tri]; simp only [triFrame]; split_ifs <;> rfl

@[simp] theorem frameTick_tri_periodCounter (s : State) : (frameTick s).tri.periodCounter = s.tri.periodCounter := by
  rw [frameTick_tri]; simp only [triFrame]; split_ifs <;> rfl

theorem noiseLevel_of_exhausted {n : Noise} (h : n.len.counter = 0) : noiseLevel n = 0 := if_pos h

theorem triAdvance_of_exhausted {t : Triangle} (h : t.len.counter = 0) : triAdvance t = t := if_pos (.inl h)

/-- R136: an exhausted triangle holds its timer and its step, which the frame sequencer never writes. -/
theorem tick_tri_of_exhausted {s : State} (h : (frameTick s).tri.len.counter = 0) :
    (tick s).tri.stepCounter = s.tri.stepCounter ∧ (tick s).tri.periodCounter = s.tri.periodCounter := by
  rw [tick_tri_stepCounter, tick_tri_periodCounter, triAdvance_of_exhausted h]
  exact ⟨frameTick_tri_stepCounter s, frameTick_tri_periodCounter s⟩

theorem tick_out_noise_of_exhausted {s : State} (h : (frameTick s).noise.len.counter = 0) :
    (tick s).out.noise = 0 := by
  rw [tick_out]; exact noiseLevel_of_exhausted h

/-! ## The status byte (R110, R285) -/

/-- The four low bits, each the activity of its channel's length counter. -/
theorem statusByte_lengthBits (o : Byte) (s : State) :
    (statusByte o s).getLsbD 0 = lengthActive s.p1.len ∧ (statusByte o s).getLsbD 1 = lengthActive s.p2.len ∧
    (statusByte o s).getLsbD 2 = lengthActive s.tri.len ∧ (statusByte o s).getLsbD 3 = lengthActive s.noise.len := by
  simp only [statusByte, BitVec.getLsbD_append]
  simp

theorem lengthActive_of_exhausted {l : LengthCounter} (h : l.counter = 0) : lengthActive l = false := by
  rw [lengthActive, h]; rfl

end Sys2Proof.Machine

namespace Sys2Proof.Spec

open Sys2Proof.Machine

theorem bit_eq_getLsbD (d : Byte) (n : Nat) : bit d n = d.getLsbD n := (getLsbD_eq_div d n).symm

/-- R155, R156: the period check fails exactly on the muted sweeps. With the decrement set the target is never looked at,
so the channel's kind of complement makes no difference. -/
theorem sweepCheck_eq_false_iff (ones : Bool) (w : Sweep) : sweepCheck ones w = false ↔ Muted w := by
  have htarget (hdec : w.decrement = false) :
      sweepTarget ones w > 0x7FF ↔ w.pulsePeriod.toNat + w.pulsePeriod.toNat / 2 ^ w.shift.toNat > 0x7FF := by
    simp only [sweepTarget, hdec, BitVec.toNat_ushiftRight, Nat.shiftRight_eq_div_pow, Bool.false_eq_true, if_false]
    omega
  unfold sweepCheck Muted
  split_ifs with hlow hhigh
  · exact iff_of_true rfl (.inl hlow)
  · exact iff_of_true rfl (.inr ⟨hhigh.1, (htarget hhigh.1).mp hhigh.2⟩)
  · refine iff_of_false nofun ?_
    rintro (h | ⟨hdec, h⟩)
    · exact hlow h
    · exact hhigh ⟨hdec, (htarget hdec).mpr h⟩

/-- R166: a pulse channel puts out 0 while its counter is 0 or its sweep mutes it. -/
theorem pulseLevel_of_silent {p : Pulse} (h : p.len.counter = 0 ∨ Muted p.sweep) (c : Config) (ch : PulseId) :
    pulseLevel c ch p = 0 := by
  refine if_pos ?_
  rw [pulseSilent, Bool.or_eq_true, Bool.not_eq_true', beq_iff_eq, sweepCheck_eq_false_iff]
  exact h.symm

theorem tick_out_p1_of_silent {s : State} (h : (frameTick s).p1.len.counter = 0 ∨ Muted (frameTick s).p1.sweep) :
    (tick s).out.p1 = 0 := by
  rw [tick_out]; exact pulseLevel_of_silent h _ _

theorem tick_out_p2_of_silent {s : State} (h : (frameTick s).p2.len.counter = 0 ∨ Muted (frameTick s).p2.sweep) :
    (tick s).out.p2 = 0 := by
  rw [tick_out]; exact pulseLevel_of_silent h _ _

/-- Settles O36: each channel's level by its own rule of silence, and each status bit as the activity of its counter. -/
theorem exhaustedOrMutedChannelsAreSilent : Obligations.ExhaustedOrMutedChannelsAreSilent := by
  constructor
  · intro s t h
    obtain rfl := eq_tick_of_exec h
    exact ⟨tick_out_p1_of_silent, tick_out_p2_of_silent, tick_out_noise_of_exhausted, tick_tri_of_exhausted⟩
  · intro s t v h hv
    cases (exec_rd4015 s).symm.trans h
    rw [clearFrameIrq_returned, returnByte_returned] at hv
    cases hv
    obtain ⟨hp1, hp2, htri, hnoise⟩ := statusByte_lengthBits (openBusDraw s) s
    simp only [bit_eq_getLsbD, hp1, hp2, htri, hnoise]
    exact ⟨lengthActive_of_exhausted, lengthActive_of_exhausted, lengthActive_of_exhausted, lengthActive_of_exhausted⟩

end Sys2Proof.Spec
end

section
/-! PROOF. The length counters in a tick (R134, R135, R277): when the half-frame clock comes, what it and the buffered
writes make of every counter, and the statement TickClocksLengthCountersThenAppliesBufferedWrites. -/

namespace Sys2Proof.Machine

/-- R254, R259: the half-frame clock comes with a restart of the 5-step mode, or with the steps 1 and 4. -/
theorem frameEvents_half (c : Config) (f : FrameSequencer) : (frameEvents c f).half = true ↔
    (frameExpires f = true ∧ f.mode = true) ∨ (frameFires f = true ∧ isHalfStep f.step = true) := by
  unfold frameEvents
  split_ifs with hexp hfire
  · simp [frameFires, hexp]
  · simp [stepEvents, hexp, hfire]
  · simp [hexp, hfire]

/-- R134, R135: a length counter after a tick, field by field. The buffered load wins over the half-frame clock. -/
theorem lengthTick_eq (c : Config) (ev : FrameEvents) (l : LengthCounter) : lengthTick c ev l = { l with
    halt := if l.delayHalt then l.newHalt else l.halt
    counter := if l.delayCounter then lengthEntry c l.counterIndex
      else if ev.half then (lengthMain l).counter else l.counter
    delayHalt := false
    delayCounter := false } := by
  have hclock : (if ev.half then lengthMain l else l) =
      { l with counter := if ev.half then (lengthMain l).counter else l.counter } := by
    split_ifs
    · exact lengthMain_frame l
    · rfl
  rw [lengthTick, hclock, lengthApplyPending_eq]

theorem lengthTick_counter_of_buffered {l : LengthCounter} (h : l.delayCounter = true) (c : Config) (ev : FrameEvents) :
    (lengthTick c ev l).counter = lengthEntry c l.counterIndex := by
  rw [lengthTick_eq]; exact if_pos h

theorem lengthTick_counter_of_unbuffered {l : LengthCounter} (h : l.delayCounter = false) (c : Config)
    (ev : FrameEvents) : (lengthTick c ev l).counter = if ev.half then (lengthMain l).counter else l.counter := by
  rw [lengthTick_eq]; exact if_neg (by simp [h])

theorem frameTick_p1_len (s : State) : (frameTick s).p1.len =
    if (frameEvents s.cfg s.fs).half then lengthMain s.p1.len else s.p1.len := by
  rw [frameTick_p1]; rfl

theorem frameTick_p2_len (s : State) : (frameTick s).p2.len =
    if (frameEvents s.cfg s.fs).half then lengthMain s.p2.len else s.p2.len := by
  rw [frameTick_p2]; rfl

theorem frameTick_tri_len (s : State) : (frameTick s).tri.len =
    if (frameEvents s.cfg s.fs).half then lengthMain s.tri.len else s.tri.len := by
  rw [frameTick_tri]; simp only [triFrame]; split_ifs <;> rfl

theorem frameTick_noise_len (s : State) : (frameTick s).noise.len =
    if (frameEvents s.cfg s.fs).half then lengthMain s.noise.len else s.noise.len := by
  rw [frameTick_noise]; rfl

theorem tick_p1_len (s : State) : (tick s).p1.len = lengthTick s.cfg (frameEvents s.cfg s.fs) s.p1.len := by
  rw [tick_eq, lengthTick, ← frameTick_p1_len]

theorem tick_p2_len (s : State) : (tick s).p2.len = lengthTick s.cfg (frameEvents s.cfg s.fs) s.p2.len := by
  rw [tick_eq, lengthTick, ← frameTick_p2_len]

theorem tick_tri_len (s : State) : (tick s).tri.len = lengthTick s.cfg (frameEvents s.cfg s.fs) s.tri.len := by
  rw [tick_eq, lengthTick, ← frameTick_tri_len]

theorem tick_noise_len (s : State) : (tick s).noise.len = lengthTick s.cfg (frameEvents s.cfg s.fs) s.noise.len := by
  rw [tick_eq, lengthTick, ← frameTick_noise_len]

end Sys2Proof.Machine

namespace Sys2Proof.Spec

open Sys2Proof.Machine

theorem restartNext_iff (s : State) : RestartNext s ↔ frameExpires s.fs = true := by
  rw [RestartNext, frameExpires, Bool.and_eq_true, beq_iff_eq]
  exact and_congr_right fun _ => by bv_omega

theorem stepNext_iff (s : State) : StepNext s ↔ frameFires s.fs = true := by
  rw [StepNext, restartNext_iff, frameFires, Bool.and_eq_true, Bool.not_eq_true', Bool.not_eq_true, beq_iff_eq]
  exact and_congr_right fun _ => by bv_omega

theorem isHalfStep_iff (k : BitVec 3) : isHalfStep k = true ↔ k.toNat = 1 ∨ k.toNat = 4 := by
  rw [isHalfStep, Bool.or_eq_true, beq_iff_eq, beq_iff_eq]
  bv_omega

theorem halfNext_iff (s : State) : HalfNext s ↔ (frameEvents s.cfg s.fs).half = true := by
  rw [HalfNext, restartNext_iff, stepNext_iff, frameEvents_half, isHalfStep_iff]

theorem lengthMain_counter_of_lastClock {l : LengthCounter} (h : LastClock l) : (lengthMain l).counter = 0 := by
  obtain ⟨hen, hhalt, hone⟩ := h
  rw [← BitVec.toNat_inj, lengthMain_counter_toNat, if_pos ⟨hen, hhalt⟩, hone]
  rfl

theorem lengthTicked_lengthTick (c : Config) (ev : FrameEvents) (l : LengthCounter) :
    LengthTicked c (ev.half = true) l (lengthTick c ev l) := by
  refine ⟨by rw [lengthTick_eq], fun hbuf => ?_, fun hbuf hcount => ?_, fun hbuf hstay => ?_, by rw [lengthTick_eq]⟩
  · rw [lengthTick_counter_of_buffered hbuf]
    exact lengthEntry_eq c l.counterIndex
  · obtain ⟨hhalf, hen, hhalt, hne⟩ := hcount
    rw [lengthTick_counter_of_unbuffered hbuf, if_pos hhalf, lengthMain_of_counting ⟨hen, hhalt, hne⟩]
    bv_omega
  · rw [lengthTick_counter_of_unbuffered hbuf]
    split_ifs with hhalf
    · rw [lengthMain_of_not_counting fun hcount => hstay ⟨hhalf, hcount⟩]
    · rfl

/-- Settles O30: the buffered writes land on what the half-frame clock leaves, while the channels run between the two and
so see a counter that this clock has just taken to 0. -/
theorem tickClocksLengthCountersThenAppliesBufferedWrites :
    Obligations.TickClocksLengthCountersThenAppliesBufferedWrites := by
  intro s t h
  obtain rfl := eq_tick_of_exec h
  simp only [halfNext_iff, tick_p1_len, tick_p2_len, tick_tri_len, tick_noise_len, frameTick_p1_len, frameTick_p2_len,
    frameTick_tri_len, frameTick_noise_len]
  refine ⟨lengthTicked_lengthTick _ _ _, lengthTicked_lengthTick _ _ _, lengthTicked_lengthTick _ _ _,
    lengthTicked_lengthTick _ _ _, fun hhalf => ?_, fun hno => ?_⟩
  · have hzero {l : LengthCounter} (hlast : LastClock l) :
        (if (frameEvents s.cfg s.fs).half then lengthMain l else l).counter = 0 := by
      rw [if_pos hhalf, lengthMain_counter_of_lastClock hlast]
    refine ⟨if_pos hhalf, if_pos hhalf, if_pos hhalf, if_pos hhalf, fun hlast => ?_, fun hlast => ?_, fun hlast => ?_,
      fun hlast => ?_⟩
    · exact tick_out_p1_of_silent (.inl (by rw [frameTick_p1_len, hzero hlast]))
    · exact tick_out_p2_of_silent (.inl (by rw [frameTick_p2_len, hzero hlast]))
    · exact tick_out_noise_of_exhausted (by rw [frameTick_noise_len, hzero hlast])
    · exact tick_tri_of_exhausted (by rw [frameTick_tri_len, hzero hlast])
  · exact ⟨if_neg hno, if_neg hno, if_neg hno, if_neg hno⟩

end Sys2Proof.Spec
end

section
/-! PROOF. The envelope (R146, R147, R148): what its quarter-frame clock does to each field, what any number of clocks does,
and the statements EnvelopeClockDividesAndDecays, ConstantVolumeIsTheSpeed, EnvelopeVolumeNeverRisesWithoutARestart and
EnvelopeDecaysToZeroInItsTime. -/

namespace Sys2Proof.Machine

/-! ## One clock (R146) -/

theorem envelopeClock_of_restart {e : Envelope} (h : e.reloadDecay = true) :
    envelopeClock e = { e with decayCounter := e.speed, decayVolume := 15, reloadDecay := false } := if_pos h

theorem envelopeClock_of_due {e : Envelope} (h : e.reloadDecay = false) (hdue : e.decayCounter = 0) :
    envelopeClock e = { e with decayCounter := e.speed, decayVolume := envelopeDecay e } := by
  rw [envelopeClock, if_neg (ne_true_of_eq_false h), if_pos hdue]

theorem envelopeClock_of_counting {e : Envelope} (h : e.reloadDecay = false) (hrun : e.decayCounter ≠ 0) :
    envelopeClock e = { e with decayCounter := e.decayCounter - 1 } := by
  rw [envelopeClock, if_neg (ne_true_of_eq_false h), if_neg hrun]

/-- A clock writes the divider and the volume, and leaves no restart pending. -/
theorem envelopeClock_eq (e : Envelope) : envelopeClock e = { e with
    decayCounter := (envelopeClock e).decayCounter, decayVolume := (envelopeClock e).decayVolume
    reloadDecay := false } := by
  cases h : e.reloadDecay with
  | true => rw [envelopeClock_of_restart h]
  | false =>
    by_cases hdue : e.decayCounter = 0
    · rw [envelopeClock_of_due h hdue, ← h]
    · rw [envelopeClock_of_counting h hdue, ← h]

@[simp] theorem envelopeClock_speed (e : Envelope) : (envelopeClock e).speed = e.speed := by
  rw [envelopeClock_eq]
@[simp] theorem envelopeClock_useSpeedAsVolume (e : Envelope) :
    (envelopeClock e).useSpeedAsVolume = e.useSpeedAsVolume := by
  rw [envelopeClock_eq]
@[simp] theorem envelopeClock_loopMode (e : Envelope) : (envelopeClock e).loopMode = e.loopMode := by
  rw [envelopeClock_eq]
@[simp] theorem envelopeClock_reloadDecay (e : Envelope) : (envelopeClock e).reloadDecay = false := by
  rw [envelopeClock_eq]

theorem envelopeDecay_toNat (e : Envelope) : (envelopeDecay e).toNat =
    if e.decayVolume.toNat ≠ 0 then e.decayVolume.toNat - 1 else if e.loopMode = true then 15 else 0 := by
  unfold envelopeDecay
  by_cases hvol : e.decayVolume = 0
  · simp only [hvol]
    cases e.loopMode <;> rfl
  · rw [if_pos hvol, if_pos (by bv_omega)]
    bv_omega

/-- Without loop the volume goes down to 0 and stays there. -/
theorem envelopeDecay_toNat_of_once {e : Envelope} (hloop : e.loopMode = false) :
    (envelopeDecay e).toNat = e.decayVolume.toNat - 1 := by
  rw [envelopeDecay_toNat, hloop]
  cases e.decayVolume.toNat <;> rfl

theorem envelopeClock_decayCounter_toNat (e : Envelope) : (envelopeClock e).decayCounter.toNat =
    if e.reloadDecay = true ∨ e.decayCounter.toNat = 0 then e.speed.toNat else e.decayCounter.toNat - 1 := by
  cases h : e.reloadDecay with
  | true => simp [envelopeClock_of_restart h]
  | false =>
    by_cases hdue : e.decayCounter = 0
    · simp [envelopeClock_of_due h hdue, hdue]
    · rw [envelopeClock_of_counting h hdue, if_neg (not_or_intro nofun (by bv_omega))]
      bv_omega

theorem envelopeClock_decayVolume_toNat (e : Envelope) : (envelopeClock e).decayVolume.toNat =
    if e.reloadDecay = true then 15
    else if e.decayCounter.toNat ≠ 0 then e.decayVolume.toNat
    else if e.decayVolume.toNat ≠ 0 then e.decayVolume.toNat - 1
    else if e.loopMode = true then 15 else 0 := by
  cases h : e.reloadDecay with
  | true => simp [envelopeClock_of_restart h]
  | false =>
    by_cases hdue : e.decayCounter = 0
    · simp [envelopeClock_of_due h hdue, hdue, envelopeDecay_toNat]
    · rw [envelopeClock_of_counting h hdue, if_neg nofun, if_pos (by bv_omega)]

/-- Without loop and restart a clock keeps the decay volume or takes 1 from it. -/
theorem envelopeClock_decayVolume_le {e : Envelope} (hloop : e.loopMode = false) (h : e.reloadDecay = false) :
    (envelopeClock e).decayVolume.toNat ≤ e.decayVolume.toNat := by
  by_cases hdue : e.decayCounter = 0
  · rw [envelopeClock_of_due h hdue, envelopeDecay_toNat_of_once hloop]
    exact Nat.sub_le _ 1
  · rw [envelopeClock_of_counting h hdue]

/-! ## The volume (R147) -/

theorem envelopeVolume_of_constant {e : Envelope} (h : e.useSpeedAsVolume = true) : envelopeVolume e = e.speed := if_pos h

theorem envelopeVolume_of_decaying {e : Envelope} (h : e.useSpeedAsVolume = false) : envelopeVolume e = e.decayVolume :=
  if_neg (ne_true_of_eq_false h)

/-! ## Any number of clocks -/

@[simp] theorem envelopeClock_iterate_speed (n : Nat) (e : Envelope) : (envelopeClock^[n] e).speed = e.speed :=
  congrFun (Function.iterate_invariant (funext envelopeClock_speed) n) e
@[simp] theorem envelopeClock_iterate_useSpeedAsVolume (n : Nat) (e : Envelope) :
    (envelopeClock^[n] e).useSpeedAsVolume = e.useSpeedAsVolume :=
  congrFun (Function.iterate_invariant (funext envelopeClock_useSpeedAsVolume) n) e
@[simp] theorem envelopeClock_iterate_loopMode (n : Nat) (e : Envelope) : (envelopeClock^[n] e).loopMode = e.loopMode :=
  congrFun (Function.iterate_invariant (funext envelopeClock_loopMode) n) e

/-- A pending restart is taken by the first clock, and no clock makes another. -/
theorem envelopeClock_iterate_reloadDecay {e : Envelope} {n : Nat} (h : 0 < n ∨ e.reloadDecay = false) :
    (envelopeClock^[n] e).reloadDecay = false := by
  cases n with
  | zero => exact h.resolve_left (lt_irrefl 0)
  | succ n => rw [Function.iterate_succ_apply', envelopeClock_reloadDecay]

/-! ## The decay after a restart (R146, L2-ENV-5) -/

/-- The envelope `m` clocks after the one that took the restart: the divider has gone round some number of times in
`speed + 1` clocks each, `decayCounter` says how far it is in the next round, and each round took 1 from the volume
down to 0. -/
def Envelope.DecayedFor (m : Nat) (e : Envelope) : Prop :=
  ∃ rounds, m + e.decayCounter.toNat = rounds * (e.speed.toNat + 1) + e.speed.toNat ∧
    e.decayCounter.toNat ≤ e.speed.toNat ∧ e.decayVolume.toNat = 15 - rounds

theorem envelopeClock_decayedFor_of_restart {e : Envelope} (h : e.reloadDecay = true) :
    (envelopeClock e).DecayedFor 0 := by
  rw [envelopeClock_of_restart h]
  exact ⟨0, by simp, le_rfl, rfl⟩

theorem Envelope.DecayedFor.clock {e : Envelope} {m : Nat} (h : e.DecayedFor m) (hrestart : e.reloadDecay = false)
    (hloop : e.loopMode = false) : (envelopeClock e).DecayedFor (m + 1) := by
  obtain ⟨rounds, hclocks, hcount, hvol⟩ := h
  by_cases hdue : e.decayCounter = 0
  · rw [envelopeClock_of_due hrestart hdue]
    have hround : m = rounds * (e.speed.toNat + 1) + e.speed.toNat := by simpa [hdue] using hclocks
    refine ⟨rounds + 1, ?_, le_rfl, ?_⟩
    · dsimp only; rw [add_one_mul]; omega
    · rw [envelopeDecay_toNat_of_once hloop, hvol]; rfl
  · rw [envelopeClock_of_counting hrestart hdue]
    have hdown : (e.decayCounter - 1).toNat + 1 = e.decayCounter.toNat := by bv_omega
    exact ⟨rounds, by dsimp only; omega, by dsimp only; omega, hvol⟩

theorem envelopeClock_iterate_decayedFor {e : Envelope} (h : e.reloadDecay = true) (hloop : e.loopMode = false) (m : Nat) :
    (envelopeClock^[m + 1] e).DecayedFor m := by
  induction m with
  | zero => exact envelopeClock_decayedFor_of_restart h
  | succ m ih =>
    rw [Function.iterate_succ_apply']
    exact ih.clock (envelopeClock_iterate_reloadDecay (.inl m.succ_pos)) (by rw [envelopeClock_iterate_loopMode, hloop])

/-- 15 rounds of the divider take the volume to 0, and 14 do not. -/
theorem Envelope.DecayedFor.decayVolume_eq_zero_iff {e : Envelope} {m : Nat} (h : e.DecayedFor m) :
    e.decayVolume = 0 ↔ 15 * (e.speed.toNat + 1) ≤ m := by
  obtain ⟨rounds, hclocks, hcount, hvol⟩ := h
  have hrounds : rounds = m / (e.speed.toNat + 1) :=
    (Nat.div_eq_of_lt_le (by omega) (by rw [add_one_mul]; omega)).symm
  rw [← Nat.le_div_iff_mul_le (Nat.succ_pos _), ← hrounds, ← BitVec.toNat_inj, hvol]
  exact Nat.sub_eq_zero_iff_le

end Sys2Proof.Machine

namespace Sys2Proof.Spec

open Sys2Proof.Machine

/-- Settles O39, by the three cases of a clock: a restart, a divider found at 0, a divider that goes down. -/
theorem envelopeClockDividesAndDecays : Obligations.EnvelopeClockDividesAndDecays := fun e =>
  ⟨envelopeClock_eq e, envelopeClock_decayCounter_toNat e, envelopeClock_decayVolume_toNat e⟩

/-- Settles O40: no clock writes the mode or the speed. -/
theorem constantVolumeIsTheSpeed : Obligations.ConstantVolumeIsTheSpeed := by
  intro e n
  refine ⟨fun h => ?_, fun h => ?_⟩
  · rw [envelopeVolume_of_constant (by simpa using h), envelopeClock_iterate_speed]
  · exact envelopeVolume_of_decaying (by simpa using h)

/-- Settles O41: of the clocks, only one that finds a restart or wraps in loop mode raises the decay volume. -/
theorem envelopeVolumeNeverRisesWithoutARestart : Obligations.EnvelopeVolumeNeverRisesWithoutARestart := by
  intro e n hdecay hloop hrestart
  have hvolume (k : Nat) : envelopeVolume (envelopeClock^[k] e) = (envelopeClock^[k] e).decayVolume :=
    (constantVolumeIsTheSpeed e k).2 hdecay
  rw [hvolume, hvolume, Function.iterate_succ_apply']
  exact envelopeClock_decayVolume_le (by rw [envelopeClock_iterate_loopMode, hloop])
    (envelopeClock_iterate_reloadDecay hrestart)

/-- Settles O42: clock 1 takes the restart, and 15 rounds of the divider follow. -/
theorem envelopeDecaysToZeroInItsTime : Obligations.EnvelopeDecaysToZeroInItsTime := by
  intro e n hrestart hloop hn
  obtain ⟨m, rfl⟩ := Nat.exists_eq_add_one.2 hn
  rw [(envelopeClock_iterate_decayedFor hrestart hloop m).decayVolume_eq_zero_iff, envelopeClock_iterate_speed]
  omega

end Sys2Proof.Spec
end

section
/-! PROOF. The sweep's half-frame clock (R155 to R157): the target of a due sweep fits the 11-bit period, the two halves
of the clock write disjoint fields, and the statement SweepClockCommitsAndDivides. -/

namespace Sys2Proof.Machine

/-! ## The target (R155) -/

theorem sweepTarget_of_add {w : Sweep} (hdec : w.decrement = false) (ones : Bool) :
    sweepTarget ones w = w.pulsePeriod.toNat + (w.pulsePeriod.toNat / 2 ^ w.shift.toNat : ℕ) := by
  simp [sweepTarget, hdec, Nat.shiftRight_eq_div_pow]

theorem sweepTarget_of_subtract {w : Sweep} (hdec : w.decrement = true) (ones : Bool) :
    sweepTarget ones w =
      w.pulsePeriod.toNat - (w.pulsePeriod.toNat / 2 ^ w.shift.toNat : ℕ) - (if ones then 1 else 0) := by
  cases ones <;> simp [sweepTarget, hdec, Nat.shiftRight_eq_div_pow]

/-! ## The commit and the divider (R157) -/

theorem sweepCommit_frame (ones : Bool) (w : Sweep) :
    sweepCommit ones w = { w with pulsePeriod := (sweepCommit ones w).pulsePeriod } := by
  unfold sweepCommit; split_ifs <;> rfl

theorem sweepDivide_frame (w : Sweep) :
    sweepDivide w = { w with counter := (sweepDivide w).counter, reload := false } := by
  unfold sweepDivide
  split_ifs with hreload
  · rfl
  · have hclear : w.reload = false := by simpa using (not_or.mp hreload).2
    rw [← hclear]

theorem sweepDivide_counter_toNat (w : Sweep) : (sweepDivide w).counter.toNat =
    if w.counter.toNat = 0 ∨ w.reload = true then w.period.toNat else w.counter.toNat - 1 := by
  have hzero : w.counter = 0 ↔ w.counter.toNat = 0 := BitVec.toNat_inj.symm
  simp only [sweepDivide, hzero]
  split_ifs with hreload
  · rfl
  · dsimp only; bv_omega

theorem sweepClock_pulsePeriod (ones : Bool) (w : Sweep) :
    (sweepClock ones w).pulsePeriod = (sweepCommit ones w).pulsePeriod := by
  rw [sweepClock, sweepDivide_frame]

/-- The commit leaves the divider's fields alone. -/
theorem sweepClock_counter_toNat (ones : Bool) (w : Sweep) : (sweepClock ones w).counter.toNat =
    if w.counter.toNat = 0 ∨ w.reload = true then w.period.toNat else w.counter.toNat - 1 := by
  rw [sweepClock, sweepDivide_counter_toNat, sweepCommit_frame]

theorem sweepClock_frame (ones : Bool) (w : Sweep) : sweepClock ones w = { w with
    pulsePeriod := (sweepClock ones w).pulsePeriod, counter := (sweepClock ones w).counter, reload := false } := by
  rw [sweepClock_pulsePeriod, sweepClock, sweepDivide_frame (sweepCommit ones w), sweepCommit_frame]

end Sys2Proof.Machine

namespace Sys2Proof.Spec

open Sys2Proof.Machine

/-- R157: adding, the mute check bounds the target; subtracting, a shift takes at most half of a period of at least 8,
so that not even the ones' complement takes the target below 0. -/
theorem sweepTarget_fits {w : Sweep} (hshift : 0 < w.shift.toNat) (hmuted : ¬Muted w) (ones : Bool) :
    0 ≤ sweepTarget ones w ∧ sweepTarget ones w < 2 ^ 11 := by
  obtain ⟨hlow, hhigh⟩ := not_or.mp hmuted
  have hperiod := w.pulsePeriod.isLt
  cases hdec : w.decrement
  case false =>
    have hsum := not_and.mp hhigh hdec
    rw [sweepTarget_of_add hdec]
    generalize w.pulsePeriod.toNat / 2 ^ w.shift.toNat = delta at hsum ⊢
    omega
  case true =>
    have hhalf : w.pulsePeriod.toNat / 2 ^ w.shift.toNat ≤ w.pulsePeriod.toNat / 2 :=
      Nat.div_le_div_left (Nat.le_self_pow hshift.ne' 2) two_pos
    rw [sweepTarget_of_subtract hdec]
    generalize w.pulsePeriod.toNat / 2 ^ w.shift.toNat = delta at hhalf ⊢
    split_ifs <;> omega

/-- R157: the sweep is due, enabled and shifting, and its channel is not muted. -/
def SweepCommits (w : Sweep) : Prop := w.counter.toNat = 0 ∧ w.enable = true ∧ w.shift.toNat > 0 ∧ ¬Muted w

theorem sweepCommits_iff (ones : Bool) (w : Sweep) : SweepCommits w ↔
    w.counter = 0 ∧ w.enable = true ∧ w.shift ≠ 0 ∧ sweepCheck ones w = true := by
  have hcounter : w.counter = 0 ↔ w.counter.toNat = 0 := BitVec.toNat_inj.symm
  have hshift : w.shift ≠ 0 ↔ w.shift.toNat > 0 := by bv_omega
  have hcheck : sweepCheck ones w = true ↔ ¬Muted w := by simp [← sweepCheck_eq_false_iff ones]
  rw [SweepCommits, hcounter, hshift, hcheck]

/-- The period after a commit is the target itself, not wrapped. -/
theorem sweepClock_pulsePeriod_of_commits {w : Sweep} (h : SweepCommits w) (ones : Bool) :
    ((sweepClock ones w).pulsePeriod.toNat : ℤ) = sweepTarget ones w := by
  have ⟨_, _, hshift, hmuted⟩ := h
  obtain ⟨hnonneg, hlt⟩ := sweepTarget_fits hshift hmuted ones
  rw [sweepClock_pulsePeriod, sweepCommit, if_pos ((sweepCommits_iff ones w).mp h), BitVec.toNat_ofInt]
  omega

theorem sweepClock_pulsePeriod_of_not_commits {w : Sweep} (h : ¬SweepCommits w) (ones : Bool) :
    (sweepClock ones w).pulsePeriod = w.pulsePeriod := by
  rw [sweepClock_pulsePeriod, sweepCommit, if_neg ((sweepCommits_iff ones w).not.mp h)]

/-- Settles O43: the period after the clock is the target when the sweep commits and stays otherwise; the divider goes
its way whatever the commit did. -/
theorem sweepClockCommitsAndDivides : Obligations.SweepClockCommitsAndDivides := by
  intro ones w
  refine ⟨sweepClock_frame ones w, fun h => ?_, fun h => sweepClock_pulsePeriod_of_not_commits h ones,
    sweepClock_counter_toNat ones w⟩
  have htarget := sweepClock_pulsePeriod_of_commits h ones
  refine ⟨fun hdec => ?_, fun hdec => ?_⟩
  · rw [sweepTarget_of_add hdec] at htarget
    omega
  · rw [sweepTarget_of_subtract hdec] at htarget
    split_ifs at htarget ⊢ <;> omega

end Sys2Proof.Spec
end

section
/-! PROOF. The writes of the pulse registers (R170 to R173): what each leaves of its channel, from what the shared
writes of halt and length leave of a length counter (R132, R133), and the statements PulseControlWritesSetTheirFields,
PulseSweepWritesSetTheirFields, PulsePeriodLowWritesKeepTheHighBits and PulseHighWritesLoadLengthAndRestart. -/

namespace Sys2Proof.Spec

open Sys2Proof.Machine

/-! ## Writes of a length counter -/

theorem halfClockNext_iff (s : State) : HalfClockNext s ↔ lengthClocking s = true := by
  rw [HalfClockNext, lengthClocking, Bool.and_eq_true, Bool.or_eq_true, beq_iff_eq, beq_iff_eq, beq_iff_eq]
  bv_omega

theorem haltWritten_lengthSetHalt (lc v : Bool) (l : LengthCounter) :
    HaltWritten (lc = true) v l (lengthSetHalt lc v l) := ⟨fun hlc => if_pos hlc, fun hlc => if_neg hlc⟩

theorem lengthSetCounter_of_disabled {l : LengthCounter} (h : l.enable = false) (c : Config) (lc : Bool)
    (i : BitVec 5) : lengthSetCounter c lc i l = l := if_neg (by simp [h])

theorem lengthSetCounter_of_enabled {l : LengthCounter} (h : l.enable = true) (c : Config) (lc : Bool) (i : BitVec 5) :
    lengthSetCounter c lc i l =
      if lc then { l with delayCounter := true, counterIndex := i } else { l with counter := lengthEntry c i } :=
  if_pos h

theorem lengthWritten_lengthSetCounter (c : Config) (lc : Bool) (i : BitVec 5) (l : LengthCounter) :
    LengthWritten c (lc = true) i.toNat l (lengthSetCounter c lc i l) := by
  refine ⟨fun hoff => lengthSetCounter_of_disabled hoff c lc i, fun hen hlc => ?_, fun hen hlc => ?_⟩
  · rw [lengthSetCounter_of_enabled hen, if_pos hlc]
    exact ⟨rfl, rfl⟩
  · rw [lengthSetCounter_of_enabled hen, if_neg hlc]
    exact ⟨lengthEntry_eq c i, rfl⟩

/-! ## Fields of a data byte -/

theorem bits_low (d : Byte) (hi : Nat) : bits d hi 0 = d.toNat % 2 ^ (hi + 1) := by
  rw [bits, Nat.pow_zero, Nat.div_one, Nat.sub_zero]

theorem speedField_eq_bits (d : Byte) : (speedField d).toNat = bits d 3 0 :=
  (speedField_toNat d).trans (bits_low d 3).symm

theorem sweepShiftField_eq_bits (d : Byte) : (sweepShiftField d).toNat = bits d 2 0 :=
  (sweepShiftField_toNat d).trans (bits_low d 2).symm

theorem lengthIndexField_eq_bits (d : Byte) : (lengthIndexField d).toNat = bits d 7 3 := lengthIndexField_toNat d

/-! ## Writes of one channel -/

theorem pulseControlled_pulseWriteCtrl (lc : Bool) (d : Byte) (p : Pulse) :
    PulseControlled (lc = true) d p (pulseWriteCtrl lc d p) := by
  have henv : EnvelopeWritten d p.env (pulseWriteCtrl lc d p).env := by
    refine ⟨speedField_eq_bits d, ?_⟩
    rw [bit_eq_getLsbD, bit_eq_getLsbD]
    rfl
  have hhalt : HaltWritten (lc = true) (bit d 5) p.len (pulseWriteCtrl lc d p).len := by
    rw [bit_eq_getLsbD]
    exact haltWritten_lengthSetHalt lc (loopField d) p.len
  exact ⟨dutyField_toNat d, henv, hhalt, rfl⟩

theorem pulseSwept_pulseWriteSweep (d : Byte) (p : Pulse) : PulseSwept d p (pulseWriteSweep d p) := by
  refine ⟨sweepPeriodField_toNat d, sweepShiftField_eq_bits d, ?_⟩
  rw [bit_eq_getLsbD, bit_eq_getLsbD]
  rfl

theorem pulseLowered_pulseWriteLow (d : Byte) (p : Pulse) : PulseLowered d p (pulseWriteLow d p) :=
  ⟨withPeriodLow_toNat p.sweep.pulsePeriod d, rfl⟩

theorem pulseRaised_pulseWriteHigh (c : Config) (lc : Bool) (d : Byte) (p : Pulse) :
    PulseRaised c (lc = true) d p (pulseWriteHigh c lc d p) := by
  have hlen : LengthWritten c (lc = true) (bits d 7 3) p.len (pulseWriteHigh c lc d p).len := by
    rw [← lengthIndexField_eq_bits]
    exact lengthWritten_lengthSetCounter c lc (lengthIndexField d) p.len
  have hperiod : (pulseWriteHigh c lc d p).sweep.pulsePeriod.toNat =
      bits d 2 0 * 256 + p.sweep.pulsePeriod.toNat % 256 := by
    rw [bits_low]
    exact withPeriodHigh_toNat p.sweep.pulsePeriod d
  exact ⟨hperiod, hlen, rfl⟩

/-! ## The statements -/

/-- Settles O8: either write replaces its own channel by the controlled one, buffering the halt exactly in a half-frame
cycle. -/
theorem pulseControlWritesSetTheirFields : Obligations.PulseControlWritesSetTheirFields := by
  intro d s
  rw [halfClockNext_iff]
  exact ⟨⟨_, rfl, rfl, pulseControlled_pulseWriteCtrl (lengthClocking s) d s.p1⟩,
    ⟨_, rfl, rfl, pulseControlled_pulseWriteCtrl (lengthClocking s) d s.p2⟩⟩

/-- Settles O9: either write replaces its own channel's sweep settings. -/
theorem pulseSweepWritesSetTheirFields : Obligations.PulseSweepWritesSetTheirFields := fun d s =>
  ⟨⟨_, rfl, rfl, pulseSwept_pulseWriteSweep d s.p1⟩, ⟨_, rfl, rfl, pulseSwept_pulseWriteSweep d s.p2⟩⟩

/-- Settles O10: either write puts its byte below the three high bits of its own channel's period. -/
theorem pulsePeriodLowWritesKeepTheHighBits : Obligations.PulsePeriodLowWritesKeepTheHighBits := fun d s =>
  ⟨⟨_, rfl, rfl, pulseLowered_pulseWriteLow d s.p1⟩, ⟨_, rfl, rfl, pulseLowered_pulseWriteLow d s.p2⟩⟩

/-- Settles O11: either write loads its own channel's counter by the rule of R133, with the half-frame cycle as the
model reads it off the frame sequencer. -/
theorem pulseHighWritesLoadLengthAndRestart : Obligations.PulseHighWritesLoadLengthAndRestart := by
  intro d s
  rw [halfClockNext_iff]
  exact ⟨⟨_, rfl, rfl, pulseRaised_pulseWriteHigh s.cfg (lengthClocking s) d s.p1⟩,
    ⟨_, rfl, rfl, pulseRaised_pulseWriteHigh s.cfg (lengthClocking s) d s.p2⟩⟩

end Sys2Proof.Spec
end

section
/-! PROOF. A pulse channel in a tick (R166, R168): its timer, when it is frozen, its level, and the statement
TickRunsThePulseChannels. -/

namespace Sys2Proof.Machine

/-! ## The timer -/

/-- R166: twice the period plus 1 fits the 16-bit timer. -/
theorem pulseReload_toNat (p : BitVec 11) : ((p.setWidth 16 + 1) * 2).toNat = (p.toNat + 1) * 2 := by
  have := p.isLt
  bv_omega

theorem pulseTimerStep_of_one {p : Pulse} (h : p.periodCounter = 1) : pulseTimerStep p =
    { p with periodCounter := (p.sweep.pulsePeriod.setWidth 16 + 1) * 2, dutyCounter := p.dutyCounter - 1 } :=
  if_pos (by rw [h]; rfl)

theorem pulseTimerStep_of_ne_one {p : Pulse} (h : p.periodCounter ≠ 1) :
    pulseTimerStep p = { p with periodCounter := p.periodCounter - 1 } :=
  if_neg (by dsimp only; bv_omega)

theorem pulseTimerStep_frame (p : Pulse) : pulseTimerStep p =
    { p with periodCounter := (pulseTimerStep p).periodCounter, dutyCounter := (pulseTimerStep p).dutyCounter } := by
  simp only [pulseTimerStep]; split_ifs <;> rfl

theorem pulseAdvance_of_running {c : Config} {ch : PulseId} {p : Pulse}
    (h : ¬pulseSilent c ch p = true ∨ c.timerRunsWhenSilent = true) : pulseAdvance c ch p = pulseTimerStep p := by
  unfold pulseAdvance
  split_ifs with hsilent hruns
  · rfl
  · exact absurd h (not_or.mpr ⟨not_not.mpr hsilent, hruns⟩)
  · rfl

theorem pulseAdvance_of_frozen {c : Config} {ch : PulseId} {p : Pulse} (hsilent : pulseSilent c ch p = true)
    (hstops : c.timerRunsWhenSilent = false) : pulseAdvance c ch p = p := by
  rw [pulseAdvance, if_pos hsilent, if_neg (by simp [hstops])]

theorem pulseAdvance_frame (c : Config) (ch : PulseId) (p : Pulse) : pulseAdvance c ch p = { p with
    periodCounter := (pulseAdvance c ch p).periodCounter, dutyCounter := (pulseAdvance c ch p).dutyCounter } := by
  unfold pulseAdvance
  split_ifs
  · exact pulseTimerStep_frame p
  · rfl
  · exact pulseTimerStep_frame p

/-! ## The level -/

theorem dutyBit_eq (c : Config) (duty : BitVec 2) (pos : BitVec 3) :
    ∃ row, c.dutyTable[duty.toNat]? = some row ∧ row[pos.toNat]? = some (dutyBit c duty pos) :=
  ⟨_, Vector.getElem?_eq_getElem duty.isLt, Vector.getElem?_eq_getElem pos.isLt⟩

theorem pulseLevel_of_sounding {c : Config} {ch : PulseId} {p : Pulse} (h : ¬pulseSilent c ch p = true) :
    pulseLevel c ch p = if dutyBit c p.duty p.dutyCounter then envelopeVolume p.env else 0 := if_neg h

/-! ## The tick -/

theorem tick_p1 (s : State) : (tick s).p1 =
    { pulseAdvance s.cfg .p1 (frameTick s).p1 with len := lengthApplyPending s.cfg (frameTick s).p1.len } := by
  rw [tick_eq]

theorem tick_p2 (s : State) : (tick s).p2 =
    { pulseAdvance s.cfg .p2 (frameTick s).p2 with len := lengthApplyPending s.cfg (frameTick s).p2.len } := by
  rw [tick_eq]

end Sys2Proof.Machine

namespace Sys2Proof.Spec

open Sys2Proof.Machine

theorem pulseSilent_iff (c : Config) (ch : PulseId) (p : Pulse) :
    pulseSilent c ch p = true ↔ Muted p.sweep ∨ p.len.counter = 0 := by
  rw [pulseSilent, Bool.or_eq_true, Bool.not_eq_true', beq_iff_eq, sweepCheck_eq_false_iff]

/-- R166, R168: the channel's clock, whatever the buffered writes then make of its length counter. -/
theorem pulseTicked_pulseAdvance (c : Config) (ch : PulseId) (p : Pulse) (l : LengthCounter) :
    PulseTicked c p { pulseAdvance c ch p with len := l } (pulseLevel c ch p) := by
  rw [PulseTicked, ← pulseSilent_iff c ch]
  refine ⟨fun hsilent => ⟨?_, fun hstops => ?_⟩, fun hsounds => ?_, fun hruns => ⟨fun hone => ?_, fun hmore => ?_⟩, ?_⟩
  · exact if_pos hsilent
  · rw [pulseAdvance_of_frozen hsilent hstops]
    exact ⟨rfl, rfl⟩
  · obtain ⟨row, hrow, hbit⟩ := dutyBit_eq c p.duty p.dutyCounter
    exact ⟨row, _, hrow, hbit, pulseLevel_of_sounding hsounds⟩
  · rw [pulseAdvance_of_running hruns, pulseTimerStep_of_one (BitVec.eq_of_toNat_eq hone)]
    exact ⟨pulseReload_toNat p.sweep.pulsePeriod, by dsimp only; bv_omega⟩
  · rw [pulseAdvance_of_running hruns, pulseTimerStep_of_ne_one fun h => hmore (congrArg BitVec.toNat h)]
    exact ⟨rfl, rfl⟩
  · rw [pulseAdvance_frame]

/-- Settles O31: each channel by its own clock on what the frame sequencer leaves. -/
theorem tickRunsThePulseChannels : Obligations.TickRunsThePulseChannels := by
  intro s t h
  obtain rfl := eq_tick_of_exec h
  rw [tick_p1, tick_p2, tick_out]
  exact ⟨pulseTicked_pulseAdvance s.cfg .p1 _ _, pulseTicked_pulseAdvance s.cfg .p2 _ _⟩

end Sys2Proof.Spec
end

section
/-! PROOF. The frequency laws (R167, R188): a timer that counts down to 1 and then reloads repeats after its reload
value, and the statement PulseAndTriangleTimersKeepTheirFrequency. -/

namespace Sys2Proof.Machine

/-! ## A timer of any channel

`f` is the timer's step and `g v` the channel whose counter holds `v`. -/

section
variable {α : Type} {f : α → α} {g : BitVec 16 → α}

theorem iterate_countdown (hcount : ∀ v, v ≠ 1 → f (g v) = g (v - 1)) (v : BitVec 16) :
    ∀ n < v.toNat, f^[n] (g v) = g (v - BitVec.ofNat 16 n)
  | 0, _ => by simp
  | n + 1, hn => by
    have hlt := v.isLt
    have hprev := iterate_countdown hcount v n (by omega)
    have hne : v - BitVec.ofNat 16 n ≠ 1 := by bv_omega
    rw [Function.iterate_succ_apply', hprev, hcount _ hne]
    congr 1
    bv_omega

theorem iterate_underflow (hcount : ∀ v, v ≠ 1 → f (g v) = g (v - 1)) {v : BitVec 16} (hv : v ≠ 0) :
    f^[v.toNat] (g v) = f (g 1) := by
  obtain ⟨n, hn⟩ : ∃ n, v.toNat = n + 1 := Nat.exists_eq_succ_of_ne_zero (by bv_omega)
  have hlast : v - BitVec.ofNat 16 n = 1 := by bv_omega
  rw [hn, Function.iterate_succ_apply', iterate_countdown hcount v n (by omega), hlast]

end

/-- A sequencer that `f` moves on by `a` in every `N` steps is back after `k` times `N` steps, `k` moves being a whole
turn. -/
theorem iterate_turn {α : Type} {f : α → α} {w : ℕ} {g : BitVec w → α} {a : BitVec w} {N : ℕ}
    (hmove : ∀ x, f^[N] (g x) = g (x + a)) {k : ℕ} (hturn : k • a = 0) (x : BitVec w) : f^[N * k] (g x) = g x := by
  have hsemi : Function.Semiconj g (· + a) f^[N] := fun x => (hmove x).symm
  rw [Function.iterate_mul, ← (hsemi.iterate_right k).eq, add_right_iterate, hturn]
  exact congrArg g (add_zero x)

/-! ## Pulse -/

theorem pulseTimerStep_iterate (p : Pulse) {n : ℕ} (h : n < p.periodCounter.toNat) :
    pulseTimerStep^[n] p = { p with periodCounter := p.periodCounter - BitVec.ofNat 16 n } :=
  iterate_countdown (g := fun v => { p with periodCounter := v }) (fun _ hv => pulseTimerStep_of_ne_one hv) _ n h

/-- R167: after a reload value's steps the counter is reloaded and the duty position is one lower. -/
theorem pulseTimerStep_iterate_period {p : Pulse}
    (h : p.periodCounter.toNat = 2 * (p.sweep.pulsePeriod.toNat + 1)) :
    pulseTimerStep^[2 * (p.sweep.pulsePeriod.toNat + 1)] p = { p with dutyCounter := p.dutyCounter - 1 } := by
  have hreload : (p.sweep.pulsePeriod.setWidth 16 + 1) * 2 = p.periodCounter :=
    BitVec.eq_of_toNat_eq (by rw [pulseReload_toNat, h, Nat.mul_comm])
  have hne : p.periodCounter ≠ 0 := hreload ▸ pulseReload_ne_zero _
  calc pulseTimerStep^[2 * (p.sweep.pulsePeriod.toNat + 1)] p
      = pulseTimerStep^[p.periodCounter.toNat] p := by rw [h]
    _ = pulseTimerStep { p with periodCounter := 1 } :=
      iterate_underflow (g := fun v => { p with periodCounter := v }) (fun _ hv => pulseTimerStep_of_ne_one hv) hne
    _ = { p with dutyCounter := p.dutyCounter - 1 } := by rw [pulseTimerStep_of_one rfl, hreload]

theorem pulseTimerStep_iterate_turn {p : Pulse}
    (h : p.periodCounter.toNat = 2 * (p.sweep.pulsePeriod.toNat + 1)) :
    pulseTimerStep^[16 * (p.sweep.pulsePeriod.toNat + 1)] p = p := by
  have hmove (x : BitVec 3) : pulseTimerStep^[2 * (p.sweep.pulsePeriod.toNat + 1)] { p with dutyCounter := x } =
      { p with dutyCounter := x + -1 } := by
    rw [← sub_eq_add_neg]
    exact pulseTimerStep_iterate_period (p := { p with dutyCounter := x }) h
  have hperiods : 16 * (p.sweep.pulsePeriod.toNat + 1) = 2 * (p.sweep.pulsePeriod.toNat + 1) * 8 := by omega
  rw [hperiods]
  exact iterate_turn (g := fun x => { p with dutyCounter := x }) hmove (k := 8) (by decide) p.dutyCounter

/-! ## Triangle -/

/-- R187: the period plus 1 fits the 16-bit timer. -/
theorem triReload_toNat (p : BitVec 11) : (p.setWidth 16 + 1).toNat = p.toNat + 1 := by
  have := p.isLt
  bv_omega

theorem triTimerStep_of_one {t : Triangle} (h : t.periodCounter = 1) : triTimerStep t =
    { t with periodCounter := t.period.setWidth 16 + 1, stepCounter := t.stepCounter + 1 } :=
  if_pos (by rw [h]; rfl)

theorem triTimerStep_of_ne_one {t : Triangle} (h : t.periodCounter ≠ 1) :
    triTimerStep t = { t with periodCounter := t.periodCounter - 1 } :=
  if_neg (by dsimp only; bv_omega)

theorem triTimerStep_iterate (t : Triangle) {n : ℕ} (h : n < t.periodCounter.toNat) :
    triTimerStep^[n] t = { t with periodCounter := t.periodCounter - BitVec.ofNat 16 n } :=
  iterate_countdown (g := fun v => { t with periodCounter := v }) (fun _ hv => triTimerStep_of_ne_one hv) _ n h

/-- R188: after a reload value's steps the counter is reloaded and the staircase is one step on. -/
theorem triTimerStep_iterate_period {t : Triangle} (h : t.periodCounter.toNat = t.period.toNat + 1) :
    triTimerStep^[t.period.toNat + 1] t = { t with stepCounter := t.stepCounter + 1 } := by
  have hreload : t.period.setWidth 16 + 1 = t.periodCounter := BitVec.eq_of_toNat_eq (by rw [triReload_toNat, h])
  have hne : t.periodCounter ≠ 0 := hreload ▸ triReload_ne_zero _
  calc triTimerStep^[t.period.toNat + 1] t
      = triTimerStep^[t.periodCounter.toNat] t := by rw [h]
    _ = triTimerStep { t with periodCounter := 1 } :=
      iterate_underflow (g := fun v => { t with periodCounter := v }) (fun _ hv => triTimerStep_of_ne_one hv) hne
    _ = { t with stepCounter := t.stepCounter + 1 } := by rw [triTimerStep_of_one rfl, hreload]

theorem triTimerStep_iterate_turn {t : Triangle} (h : t.periodCounter.toNat = t.period.toNat + 1) :
    triTimerStep^[32 * (t.period.toNat + 1)] t = t := by
  have hmove (x : BitVec 5) : triTimerStep^[t.period.toNat + 1] { t with stepCounter := x } =
      { t with stepCounter := x + 1 } := triTimerStep_iterate_period (t := { t with stepCounter := x }) h
  rw [Nat.mul_comm]
  exact iterate_turn (g := fun x => { t with stepCounter := x }) hmove (k := 32) (by decide) t.stepCounter

end Sys2Proof.Machine

namespace Sys2Proof.Spec

open Sys2Proof.Machine

/-- Settles O48: nothing but the counter moves before it underflows, the underflow reloads it, and 8 duty positions or
32 steps are a whole turn. -/
theorem pulseAndTriangleTimersKeepTheirFrequency : Obligations.PulseAndTriangleTimersKeepTheirFrequency := by
  refine ⟨fun p h => ⟨fun n hn => ?_, pulseTimerStep_iterate_period h, pulseTimerStep_iterate_turn h⟩,
    fun t h => ⟨fun n hn => ?_, triTimerStep_iterate_period h, triTimerStep_iterate_turn h⟩⟩
  · rw [pulseTimerStep_iterate p (hn.trans_eq h.symm)]
  · rw [triTimerStep_iterate t (hn.trans_eq h.symm)]

end Sys2Proof.Spec
end

section
/-! PROOF. The writes of the triangle's registers (R190 to R192): what each leaves of the channel, and the statements
TriangleLinearWriteSetsItsFields and TrianglePeriodWritesSetTheirFields. -/

namespace Sys2Proof.Spec

open Sys2Proof.Machine

theorem linearLengthField_eq_bits (d : Byte) : (linearLengthField d).toNat = bits d 6 0 :=
  (linearLengthField_toNat d).trans (bits_low d 6).symm

theorem haltWritten_linearControlField (lc : Bool) (d : Byte) (l : LengthCounter) :
    HaltWritten (lc = true) (bit d 7) l (lengthSetHalt lc (linearControlField d) l) := by
  rw [bit_eq_getLsbD]
  exact haltWritten_lengthSetHalt lc (linearControlField d) l

/-- R133 for any channel whose length index is `D[7:3]`. -/
theorem lengthWritten_lengthIndexField (c : Config) (lc : Bool) (d : Byte) (l : LengthCounter) :
    LengthWritten c (lc = true) (bits d 7 3) l (lengthSetCounter c lc (lengthIndexField d) l) := by
  rw [← lengthIndexField_eq_bits]
  exact lengthWritten_lengthSetCounter c lc (lengthIndexField d) l

theorem withPeriodHigh_eq_bits (p : BitVec 11) (d : Byte) :
    (withPeriodHigh p d).toNat = bits d 2 0 * 256 + p.toNat % 256 := by
  rw [bits_low]
  exact withPeriodHigh_toNat p d

/-- Settles O12: the write replaces the triangle only, buffering the halt exactly in a half-frame cycle. -/
theorem triangleLinearWriteSetsItsFields : Obligations.TriangleLinearWriteSetsItsFields := by
  intro d s
  rw [halfClockNext_iff]
  exact ⟨_, rfl, rfl, linearLengthField_eq_bits d,
    haltWritten_linearControlField (lengthClocking s) d s.tri.len, rfl⟩

/-- Settles O13: either write replaces its own bits of the period, and the high one loads the length counter by the rule
of R133. -/
theorem trianglePeriodWritesSetTheirFields : Obligations.TrianglePeriodWritesSetTheirFields := by
  intro d s
  rw [halfClockNext_iff]
  exact ⟨⟨_, rfl, rfl, withPeriodLow_toNat s.tri.period d, rfl⟩,
    ⟨_, rfl, rfl, withPeriodHigh_eq_bits s.tri.period d,
      lengthWritten_lengthIndexField s.cfg (lengthClocking s) d s.tri.len, rfl⟩⟩

end Sys2Proof.Spec
end

section
/-! PROOF. The triangle's linear counter (R186): its quarter-frame clock, and the statement
LinearCounterReloadsOrCountsDown. -/

namespace Sys2Proof.Machine

theorem triLinearCount_of_reload {t : Triangle} (h : t.reloadLinear = true) : triLinearCount t = t.linearLength :=
  if_pos h

/-- Without a reload the counter goes down to 0 and stays there. -/
theorem triLinearCount_toNat_of_counting {t : Triangle} (h : t.reloadLinear = false) :
    (triLinearCount t).toNat = t.linearLengthCounter.toNat - 1 := by
  rw [triLinearCount, if_neg (ne_true_of_eq_false h)]
  split_ifs with hrun
  · bv_omega
  · rw [not_not.mp hrun]; rfl

theorem triLinearCount_toNat (t : Triangle) : (triLinearCount t).toNat =
    if t.reloadLinear = true then t.linearLength.toNat else t.linearLengthCounter.toNat - 1 := by
  split_ifs with hreload
  · rw [triLinearCount_of_reload hreload]
  · exact triLinearCount_toNat_of_counting (eq_false_of_ne_true hreload)

end Sys2Proof.Machine

namespace Sys2Proof.Spec

open Sys2Proof.Machine

/-- Settles O44: the count by whether a reload is pending; the flag stays only where the control bit holds it. -/
theorem linearCounterReloadsOrCountsDown : Obligations.LinearCounterReloadsOrCountsDown :=
  fun t => ⟨rfl, triLinearCount_toNat t, Bool.and_eq_true_iff⟩

end Sys2Proof.Spec
end

section
/-! PROOF. The triangle in a tick (R185, R187): the value of each step of its staircase, when its timer is frozen, and
the statement TickRunsTheTriangle. -/

namespace Sys2Proof.Machine

/-! ## The staircase (R185) -/

/-- The direction bit of a step: clear in the 16 falling steps, set in the 16 rising ones. -/
theorem getLsbD_four_iff (k : BitVec 5) : k.getLsbD 4 = true ↔ ¬k.toNat < 16 := by
  have hk := k.isLt
  rw [BitVec.getLsbD, Nat.testBit_eq_decide_div_mod_eq, decide_eq_true_iff]
  omega

theorem triValue_toNat_of_falling {k : BitVec 5} (h : k.toNat < 16) : (triValue k).toNat = 15 - k.toNat := by
  have hfalls : ¬k.getLsbD 4 = true := fun hrises => (getLsbD_four_iff k).mp hrises h
  calc (triValue k).toNat
      = (k.extractLsb' 0 4 ^^^ BitVec.allOnes 4).toNat := congrArg BitVec.toNat (if_neg hfalls)
    _ = 15 - k.toNat % 16 := by rw [BitVec.xor_allOnes, BitVec.toNat_not, BitVec.extractLsb'_toNat]; rfl
    _ = 15 - k.toNat := by rw [Nat.mod_eq_of_lt h]

theorem triValue_toNat_of_rising {k : BitVec 5} (h : ¬k.toNat < 16) : (triValue k).toNat = k.toNat - 16 := by
  have hk := k.isLt
  calc (triValue k).toNat
      = (k.extractLsb' 0 4).toNat := congrArg BitVec.toNat (if_pos ((getLsbD_four_iff k).mpr h))
    _ = k.toNat % 16 := BitVec.extractLsb'_toNat 0 4 k
    _ = k.toNat - 16 := by omega

theorem triValue_toNat (k : BitVec 5) :
    (triValue k).toNat = if k.toNat < 16 then 15 - k.toNat else k.toNat - 16 := by
  split_ifs with h
  · exact triValue_toNat_of_falling h
  · exact triValue_toNat_of_rising h

/-! ## The tick (R187) -/

theorem triAdvance_of_frozen {t : Triangle} (h : t.len.counter = 0 ∨ t.linearLengthCounter = 0) : triAdvance t = t :=
  if_pos h

theorem triAdvance_of_running {t : Triangle} (h : ¬(t.len.counter = 0 ∨ t.linearLengthCounter = 0)) :
    triAdvance t = triTimerStep t := if_neg h

@[simp] theorem frameTick_tri_period (s : State) : (frameTick s).tri.period = s.tri.period := by
  rw [frameTick_tri]; simp only [triFrame]; split_ifs <;> rfl

end Sys2Proof.Machine

namespace Sys2Proof.Spec

open Sys2Proof.Machine

/-- Settles O32: the frame sequencer decides whether the triangle is frozen, and leaves its timer, its period and its
step as they were. -/
theorem tickRunsTheTriangle : Obligations.TickRunsTheTriangle := by
  intro s t h
  obtain rfl := eq_tick_of_exec h
  rw [tick_out, tick_tri_periodCounter, tick_tri_stepCounter, ← frameTick_tri_stepCounter s,
    ← frameTick_tri_periodCounter s, ← frameTick_tri_period s]
  refine ⟨triValue_toNat _, fun hfrozen => ?_, fun hruns => ⟨fun hone => ?_, fun hmore => ?_⟩⟩
  · rw [triAdvance_of_frozen hfrozen]
    exact ⟨rfl, rfl⟩
  · rw [triAdvance_of_running hruns, triTimerStep_of_one (BitVec.eq_of_toNat_eq hone)]
    exact ⟨triReload_toNat _, BitVec.toNat_add _ _⟩
  · rw [triAdvance_of_running hruns, triTimerStep_of_ne_one fun h => hmore (congrArg BitVec.toNat h)]
    exact ⟨rfl, rfl⟩

end Sys2Proof.Spec
end

section
/-! PROOF. The writes of the noise channel's registers (R205 to R207): what each leaves of the channel, and the
statements NoiseControlWriteSetsItsFields and NoisePeriodAndLengthWritesSetTheirFields. -/

namespace Sys2Proof.Spec

open Sys2Proof.Machine

theorem periodIndexField_eq_bits (d : Byte) : (periodIndexField d).toNat = bits d 3 0 :=
  (periodIndexField_toNat d).trans (bits_low d 3).symm

/-- R95, R102 for any envelope that a control byte is written to. -/
theorem envelopeWritten_controlFields (d : Byte) (e : Envelope) : EnvelopeWritten d e
    { e with loopMode := loopField d, useSpeedAsVolume := constantVolumeField d, speed := speedField d } := by
  refine ⟨speedField_eq_bits d, ?_⟩
  rw [bit_eq_getLsbD, bit_eq_getLsbD]
  rfl

theorem haltWritten_loopField (lc : Bool) (d : Byte) (l : LengthCounter) :
    HaltWritten (lc = true) (bit d 5) l (lengthSetHalt lc (loopField d) l) := by
  rw [bit_eq_getLsbD]
  exact haltWritten_lengthSetHalt lc (loopField d) l

theorem noiseWritePeriod_eq (d : Byte) (n : Noise) :
    noiseWritePeriod d n = { n with shortMode := bit d 7, period := periodIndexField d } := by
  rw [bit_eq_getLsbD]
  rfl

/-- Settles O14: the write replaces the noise channel only, buffering the halt exactly in a half-frame cycle. -/
theorem noiseControlWriteSetsItsFields : Obligations.NoiseControlWriteSetsItsFields := by
  intro d s
  rw [halfClockNext_iff]
  exact ⟨_, rfl, rfl, envelopeWritten_controlFields d s.noise.env,
    haltWritten_loopField (lengthClocking s) d s.noise.len, rfl⟩

/-- Settles O15: $400E sets its two fields, and $400F loads the length counter by the rule of R133. -/
theorem noisePeriodAndLengthWritesSetTheirFields : Obligations.NoisePeriodAndLengthWritesSetTheirFields := by
  intro d s
  rw [halfClockNext_iff]
  exact ⟨⟨_, rfl, rfl, periodIndexField_eq_bits d, noiseWritePeriod_eq d s.noise⟩,
    ⟨_, rfl, rfl, lengthWritten_lengthIndexField s.cfg (lengthClocking s) d s.noise.len, rfl⟩⟩

end Sys2Proof.Spec
end

section
/-! PROOF. The noise channel in a tick (R201, R202): its shift register as a number, its timer, when it is frozen, its
level, and the statement TickRunsTheNoiseChannel. -/

namespace Sys2Proof.Machine

/-! ## The shift register (R201) -/

theorem toNat_xor_eq_parity (a b : Bool) : (a ^^ b).toNat = (a.toNat + b.toNat) % 2 := by
  cases a <;> cases b <;> rfl

/-- The exclusive or of two bits of a number is the parity of what the two shifts leave. -/
theorem toNat_ofBool_xor_testBit (m i j : ℕ) :
    (BitVec.ofBool (m.testBit i ^^ m.testBit j)).toNat = (m / 2 ^ i + m / 2 ^ j) % 2 := by
  rw [BitVec.toNat_ofBool, toNat_xor_eq_parity, Nat.toNat_testBit, Nat.toNat_testBit, ← Nat.add_mod]

theorem lfsrNext_toNat (short : Bool) (x : BitVec 15) : (lfsrNext short x).toNat =
    x.toNat / 2 + 2 ^ 14 * ((x.toNat + x.toNat / (if short then 2 ^ 6 else 2)) % 2) := by
  have htap : (x.getLsbD 0 ^^ (if short then x.getLsbD 6 else x.getLsbD 1)) =
      (x.toNat.testBit 0 ^^ x.toNat.testBit (if short then 6 else 1)) := by cases short <;> rfl
  have hpow : 2 ^ (if short then 6 else 1) = if short then 2 ^ 6 else 2 := by cases short <;> rfl
  have hx := x.isLt
  rw [lfsrNext, BitVec.toNat_append, htap, toNat_ofBool_xor_testBit, hpow, BitVec.extractLsb'_toNat,
    ← Nat.shiftLeft_add_eq_or_of_lt (Nat.mod_lt _ (by decide)), Nat.shiftLeft_eq, Nat.shiftRight_eq_div_pow,
    Nat.pow_zero, Nat.div_one, Nat.pow_one]
  generalize (x.toNat + x.toNat / (if short then 2 ^ 6 else 2)) % 2 = fed
  omega

/-! ## The timer (R202) -/

theorem noiseTimerStep_of_one {n : Noise} (h : n.periodCounter = 1) (c : Config) : noiseTimerStep c n =
    { n with lfsr := lfsrNext n.shortMode n.lfsr, periodCounter := noiseReload c n.period } :=
  if_pos (by rw [h]; rfl)

theorem noiseTimerStep_of_ne_one {n : Noise} (h : n.periodCounter ≠ 1) (c : Config) :
    noiseTimerStep c n = { n with periodCounter := n.periodCounter - 1 } :=
  if_neg (by dsimp only; bv_omega)

theorem noiseAdvance_of_running {c : Config} {n : Noise} (h : n.len.counter ≠ 0 ∨ c.timerRunsWhenSilent = true) :
    noiseAdvance c n = noiseTimerStep c n := by
  unfold noiseAdvance
  split_ifs with hsilent hruns
  · rfl
  · exact absurd h (not_or.mpr ⟨not_not.mpr hsilent, hruns⟩)
  · rfl

theorem noiseAdvance_of_frozen {c : Config} {n : Noise} (hsilent : n.len.counter = 0)
    (hstops : c.timerRunsWhenSilent = false) : noiseAdvance c n = n := by
  rw [noiseAdvance, if_pos hsilent, if_neg (ne_true_of_eq_false hstops)]

/-! ## The level (R202) -/

theorem getLsbD_zero_iff (x : BitVec 15) : x.getLsbD 0 = true ↔ x.toNat % 2 = 1 := by
  rw [BitVec.getLsbD, Nat.testBit_zero, decide_eq_true_iff]

theorem noiseLevel_of_sounding {n : Noise} (h : n.len.counter ≠ 0) :
    noiseLevel n = if n.lfsr.toNat % 2 = 1 then envelopeVolume n.env else 0 := by
  rw [noiseLevel, if_neg h]
  exact if_congr (getLsbD_zero_iff n.lfsr) rfl rfl

/-! ## The tick -/

@[simp] theorem frameTick_noise_lfsr (s : State) : (frameTick s).noise.lfsr = s.noise.lfsr := by
  rw [frameTick_noise]; rfl

@[simp] theorem frameTick_noise_periodCounter (s : State) :
    (frameTick s).noise.periodCounter = s.noise.periodCounter := by
  rw [frameTick_noise]; rfl

@[simp] theorem frameTick_noise_period (s : State) : (frameTick s).noise.period = s.noise.period := by
  rw [frameTick_noise]; rfl

@[simp] theorem frameTick_noise_shortMode (s : State) : (frameTick s).noise.shortMode = s.noise.shortMode := by
  rw [frameTick_noise]; rfl

theorem tick_noise_lfsr (s : State) : (tick s).noise.lfsr = (noiseAdvance s.cfg (frameTick s).noise).lfsr := by
  rw [tick_eq]

theorem tick_noise_periodCounter (s : State) :
    (tick s).noise.periodCounter = (noiseAdvance s.cfg (frameTick s).noise).periodCounter := by
  rw [tick_eq]

end Sys2Proof.Machine

namespace Sys2Proof.Spec

open Sys2Proof.Machine

/-- Settles O33: the frame sequencer decides whether the channel is silent, and leaves its timer, its period, its mode
and its shift register as they were. -/
theorem tickRunsTheNoiseChannel : Obligations.TickRunsTheNoiseChannel := by
  intro s t h
  obtain rfl := eq_tick_of_exec h
  rw [tick_out, tick_noise_lfsr, tick_noise_periodCounter, ← frameTick_noise_lfsr s, ← frameTick_noise_periodCounter s,
    ← frameTick_noise_period s, ← frameTick_noise_shortMode s]
  refine ⟨fun hsilent => ⟨noiseLevel_of_exhausted hsilent, fun hstops => ?_⟩, noiseLevel_of_sounding,
    fun hruns => ⟨fun hone => ?_, fun hmore => ?_⟩⟩
  · rw [noiseAdvance_of_frozen hsilent hstops]
    exact ⟨rfl, rfl⟩
  · rw [noiseAdvance_of_running hruns, noiseTimerStep_of_one (BitVec.eq_of_toNat_eq hone)]
    exact ⟨lfsrNext_toNat _ _, noiseReload_eq _ _⟩
  · rw [noiseAdvance_of_running hruns, noiseTimerStep_of_ne_one fun h => hmore (congrArg BitVec.toNat h)]
    exact ⟨rfl, rfl⟩

end Sys2Proof.Spec
end

section
/-! PROOF. The period of the shift register (R203, 90 C3). In long mode 15 steps are the identity plus one step, and
doubling the number of steps keeps such a relation (the Frobenius map in characteristic 2): 2^j steps are reached
without making them. So the period of the state 1 is known, and its orbit leaves no other nonzero state over. The
statements LongModeNoiseHasPeriod32767 and ShortModeNoiseHasPeriod93AndNeverDies. -/

namespace Sys2Proof.Machine

open Function

/-! ## Periods -/

/-- A period is minimal if none of its quotients by a prime is one. -/
theorem minimalPeriod_eq_of_prime_quotients {α : Type} {f : α → α} {x : α} {n : ℕ} (hn : 0 < n)
    (h : IsPeriodicPt f n x) (hquot : ∀ p ∈ n.primeFactorsList, ¬IsPeriodicPt f (n / p) x) : minimalPeriod f x = n := by
  obtain ⟨a, ha⟩ := h.minimalPeriod_dvd
  by_contra hne
  obtain ⟨p, hp, hpa⟩ := Nat.exists_prime_and_dvd (n := a) (by rintro rfl; exact hne (by omega))
  have hpn : minimalPeriod f x * p ∣ n := (mul_dvd_mul_left _ hpa).trans ha.symm.dvd
  refine hquot p ((Nat.mem_primeFactorsList hn.ne').mpr ⟨hp, (Dvd.intro_left _ rfl).trans hpn⟩) ?_
  exact (isPeriodicPt_minimalPeriod f x).trans_dvd (Nat.dvd_div_of_mul_dvd (by rwa [mul_comm]))

/-! ## The steps of the shift register as shifts -/

theorem lfsrNext_iterate_ne_zero (short : Bool) {x : BitVec 15} (h : x ≠ 0) (n : ℕ) : (lfsrNext short)^[n] x ≠ 0 :=
  Iterate.rec (· ≠ 0) h (fun _ => lfsrNext_ne_zero short) n

/-- Until it is shifted out, a bit goes down by one each step. -/
theorem lfsrNext_iterate_getLsbD (short : Bool) (n : ℕ) {i : ℕ} (x : BitVec 15) (h : i + n < 15) :
    ((lfsrNext short)^[n] x).getLsbD i = x.getLsbD (i + n) := by
  induction n generalizing x with
  | zero => rfl
  | succ n ih => rw [iterate_succ_apply, ih _ (by omega), lfsrNext_getLsbD_of_lt short x (by omega), Nat.add_assoc]

/-- R201 in long mode: bit `i` is refilled after 15 steps by the bits `i` and `i + 1` that went before it. -/
theorem lfsrNext_long_iterate_fifteen (x : BitVec 15) : (lfsrNext false)^[15] x = x ^^^ lfsrNext false x := by
  refine BitVec.eq_of_getLsbD_eq fun i hi => ?_
  have hlow (y : BitVec 15) : ((lfsrNext false)^[i] y).getLsbD 0 = y.getLsbD i := by
    rw [lfsrNext_iterate_getLsbD false i y (by omega), Nat.zero_add]
  calc ((lfsrNext false)^[15] x).getLsbD i
      = ((lfsrNext false)^[14 - i] (lfsrNext false ((lfsrNext false)^[i] x))).getLsbD i := by
        rw [← iterate_succ_apply' (lfsrNext false), ← iterate_add_apply, show 14 - i + i.succ = 15 by omega]
    _ = (lfsrNext false ((lfsrNext false)^[i] x)).getLsbD 14 := by
        rw [lfsrNext_iterate_getLsbD false _ _ (by omega), Nat.add_sub_cancel' (by omega)]
    _ = (((lfsrNext false)^[i] x).getLsbD 0 ^^ ((lfsrNext false)^[i] x).getLsbD 1) := lfsrNext_getLsbD_top false _
    _ = (x.getLsbD i ^^ (lfsrNext false x).getLsbD i) := by
        rw [← lfsrNext_getLsbD_of_lt false _ (by decide), ← iterate_succ_apply' (lfsrNext false), iterate_succ_apply,
          hlow, hlow]
    _ = (x ^^^ lfsrNext false x).getLsbD i := BitVec.getLsbD_xor.symm

/-- The Frobenius step: in a square the mixed terms cancel, so the relation goes over from `m` steps to `2 * m`. -/
theorem iterate_relation_double {f : BitVec 15 → BitVec 15} {m : ℕ}
    (h : ∀ x, f^[m * 16] x = f^[m] x ^^^ f^[m * 2] x) (x : BitVec 15) :
    f^[m * 2 * 16] x = f^[m * 2] x ^^^ f^[m * 2 * 2] x := by
  calc f^[m * 2 * 16] x
      = f^[m * 16] (f^[m * 16] x) := by rw [← iterate_add_apply]; congr 2; omega
    _ = f^[m * 16] (f^[m] x) ^^^ f^[m * 16] (f^[m * 2] x) := by
        rw [h (f^[m * 16] x), ← iterate_add_apply, ← iterate_add_apply, Nat.add_comm m, Nat.add_comm (m * 2),
          iterate_add_apply, iterate_add_apply]
    _ = (f^[m * 2] x ^^^ f^[m * 3] x) ^^^ (f^[m * 3] x ^^^ f^[m * 2 * 2] x) := by
        rw [h, h, ← iterate_add_apply, ← iterate_add_apply, ← iterate_add_apply, ← iterate_add_apply,
          ← Nat.mul_two, ← Nat.mul_add_one, ← Nat.add_comm (m * 2), ← Nat.mul_add_one, ← Nat.mul_two]
    _ = f^[m * 2] x ^^^ f^[m * 2 * 2] x := by
        rw [BitVec.xor_assoc, ← BitVec.xor_assoc (f^[m * 3] x), BitVec.xor_self, BitVec.zero_xor]

theorem lfsrNext_long_iterate_two_pow (j : ℕ) (x : BitVec 15) :
    (lfsrNext false)^[2 ^ j * 16] x = (lfsrNext false)^[2 ^ j] x ^^^ (lfsrNext false)^[2 ^ j * 2] x := by
  induction j generalizing x with
  | zero => exact lfsrNext_long_iterate_fifteen (lfsrNext false x)
  | succ j ih => exact iterate_relation_double ih x

/-- `2 ^ j` steps in long mode: from the fifth power of 2 on, put together from two smaller leaps
(`lfsrNext_long_iterate_two_pow`) and not made one by one. -/
def lfsrLeap : ℕ → BitVec 15 → BitVec 15
  | 0, x => lfsrNext false x
  | 1, x => (lfsrNext false)^[2] x
  | 2, x => (lfsrNext false)^[4] x
  | 3, x => (lfsrNext false)^[8] x
  | j + 4, x => lfsrLeap j x ^^^ lfsrLeap (j + 1) x

theorem lfsrLeap_eq_iterate (j : ℕ) (x : BitVec 15) : lfsrLeap j x = (lfsrNext false)^[2 ^ j] x := by
  induction j, x using lfsrLeap.induct with
  | case1 | case2 | case3 | case4 => rfl
  | case5 j x ih ih' =>
    rw [lfsrLeap, ih, ih', Nat.pow_succ, ← lfsrNext_long_iterate_two_pow, ← Nat.pow_add 2 j 4]

/-! ## The period of the state 1 -/

/-- The state 1 comes from the state 3, to which one step fewer than 2^15 brings it. -/
theorem lfsrNext_long_isPeriodicPt_one : IsPeriodicPt (lfsrNext false) 32767 1 := by
  have hpred : lfsrNext false 3 = 1 := by decide
  have hleap : (lfsrNext false)^[32767 + 1] 3 = 1 := by
    rw [show 32767 + 1 = 2 ^ 15 by decide, ← lfsrLeap_eq_iterate]
    decide +kernel
  rwa [iterate_succ_apply, hpred] at hleap

theorem lfsrNext_long_minimalPeriod_one : minimalPeriod (lfsrNext false) 1 = 32767 := by
  refine minimalPeriod_eq_of_prime_quotients (by decide) lfsrNext_long_isPeriodicPt_one ?_
  have hprimes : Nat.primeFactorsList 32767 = [7, 31, 151] := by simp
  have h7 : (lfsrNext false)^[2 ^ 12 + 2 ^ 9 + 2 ^ 6 + 2 ^ 3 + 2 ^ 0] 1 ≠ 1 := by
    simp only [iterate_add_apply, ← lfsrLeap_eq_iterate]; decide +kernel
  have h31 : (lfsrNext false)^[2 ^ 10 + 2 ^ 5 + 2 ^ 0] 1 ≠ 1 := by
    simp only [iterate_add_apply, ← lfsrLeap_eq_iterate]; decide +kernel
  have h151 : (lfsrNext false)^[2 ^ 7 + 2 ^ 6 + 2 ^ 4 + 2 ^ 3 + 2 ^ 0] 1 ≠ 1 := by
    simp only [iterate_add_apply, ← lfsrLeap_eq_iterate]; decide +kernel
  rw [hprimes]
  intro p hp
  fin_cases hp
  exacts [h7, h31, h151]

theorem lfsrNext_short_minimalPeriod_one : minimalPeriod (lfsrNext true) 1 = 93 := by
  have hprimes : Nat.primeFactorsList 93 = [3, 31] := by simp
  have hperiod : (lfsrNext true)^[93] 1 = 1 := by decide +kernel
  have h3 : (lfsrNext true)^[31] 1 ≠ 1 := by decide +kernel
  have h31 : (lfsrNext true)^[3] 1 ≠ 1 := by decide
  refine minimalPeriod_eq_of_prime_quotients (by decide) hperiod ?_
  rw [hprimes]
  intro p hp
  fin_cases hp
  exacts [h3, h31]

/-! ## Every nonzero state is on the orbit of 1 in long mode -/

/-- The states other than 0. -/
def nonzeroStates : Finset (BitVec 15) := Finset.univ.erase 0

theorem mem_nonzeroStates {x : BitVec 15} : x ∈ nonzeroStates ↔ x ≠ 0 := by simp [nonzeroStates]

theorem card_nonzeroStates : nonzeroStates.card = 32767 := by
  rw [nonzeroStates, Finset.card_erase_of_mem (Finset.mem_univ 0), Finset.card_univ, ← FinEnum.card_eq_fintypeCard,
    FinEnum.card_bitVec]
  rfl

/-- The 32767 states that 1 goes through are different and not 0, and no other states are not 0. -/
theorem exists_lfsrNext_long_iterate_one {x : BitVec 15} (h : x ≠ 0) : ∃ k, (lfsrNext false)^[k] 1 = x := by
  have hmaps : Set.MapsTo ((lfsrNext false)^[·] 1) (Finset.range 32767) nonzeroStates := fun k _ =>
    mem_nonzeroStates.mpr (lfsrNext_iterate_ne_zero false (by decide) k)
  have hinj : Set.InjOn ((lfsrNext false)^[·] 1) (Finset.range 32767) := by
    rw [Finset.coe_range, ← lfsrNext_long_minimalPeriod_one]
    exact iterate_injOn_Iio_minimalPeriod
  have hcard : nonzeroStates.card ≤ (Finset.range 32767).card := by rw [card_nonzeroStates, Finset.card_range]
  obtain ⟨k, -, hk⟩ := Finset.surjOn_of_injOn_of_card_le _ hmaps hinj hcard (mem_nonzeroStates.mpr h)
  exact ⟨k, hk⟩

theorem lfsrNext_long_minimalPeriod {x : BitVec 15} (h : x ≠ 0) : minimalPeriod (lfsrNext false) x = 32767 := by
  obtain ⟨k, rfl⟩ := exists_lfsrNext_long_iterate_one h
  rw [minimalPeriod_apply_iterate ⟨32767, by decide, lfsrNext_long_isPeriodicPt_one⟩, lfsrNext_long_minimalPeriod_one]

/-- A minimal period is a return after exactly so many steps and not before. -/
theorem returns_first_of_minimalPeriod {α : Type} {f : α → α} {x : α} {n : ℕ} (h : minimalPeriod f x = n) :
    f^[n] x = x ∧ ∀ k, 0 < k → k < n → f^[k] x ≠ x := by
  subst h
  exact ⟨iterate_minimalPeriod, fun _ hpos hlt => not_isPeriodicPt_of_pos_of_lt_minimalPeriod hpos.ne' hlt⟩

end Sys2Proof.Machine

namespace Sys2Proof.Spec

open Sys2Proof.Machine

/-- Settles O46: the period of 1, which is that of every nonzero state. -/
theorem longModeNoiseHasPeriod32767 : Obligations.LongModeNoiseHasPeriod32767 := fun _ h =>
  returns_first_of_minimalPeriod (lfsrNext_long_minimalPeriod h)

/-- Settles O47: the period of 1 in short mode; and a register that is not 0 stays so in either mode. -/
theorem shortModeNoiseHasPeriod93AndNeverDies : Obligations.ShortModeNoiseHasPeriod93AndNeverDies :=
  ⟨returns_first_of_minimalPeriod lfsrNext_short_minimalPeriod_one,
    fun short _ hzero => by_contra fun h => lfsrNext_ne_zero short h hzero⟩

end Sys2Proof.Spec
end

section
/-! PROOF. The writes of the DMC's registers (R216 to R219) and the step of its level (R233): the statements
DmcControlWriteSetsItsFields, DmcLatchWritesSetTheirFields and DacStepMovesByTwoWithinItsRange. -/

namespace Sys2Proof.Machine

/-! ## The level (R233) -/

/-- A result of the level's arithmetic that needs no cut is the level's number. -/
theorem toNat_ofInt_level {n : ℕ} (h : n ≤ 127) : (BitVec.ofInt 7 n).toNat = n := by
  rw [BitVec.ofInt_natCast, BitVec.toNat_ofNat]
  omega

theorem dacStep_clamp_up (level : BitVec 7) : (dacStep .clamp true level).toNat = min 127 (level.toNat + 2) := by
  have hcut : min 127 (max 0 ((level.toNat : ℤ) + 2)) = (min 127 (level.toNat + 2) : ℕ) := by omega
  simp only [dacStep, if_true, hcut]
  exact toNat_ofInt_level (min_le_left _ _)

theorem dacStep_clamp_down (level : BitVec 7) : (dacStep .clamp false level).toNat = level.toNat - 2 := by
  have hlevel := level.isLt
  have hcut : min 127 (max 0 ((level.toNat : ℤ) - 2)) = (level.toNat - 2 : ℕ) := by omega
  simp only [dacStep, Bool.false_eq_true, if_false, hcut]
  exact toNat_ofInt_level (by omega)

theorem dacStep_hold_up (level : BitVec 7) : (dacStep .hold true level).toNat =
    if level.toNat ≤ 125 then level.toNat + 2 else level.toNat := by
  have hrange : (0 ≤ (level.toNat : ℤ) + 2 ∧ (level.toNat : ℤ) + 2 ≤ 127) ↔ level.toNat ≤ 125 := by omega
  simp only [dacStep, if_true, hrange]
  split_ifs with h
  · exact toNat_ofInt_level (n := level.toNat + 2) (by omega)
  · rfl

theorem dacStep_hold_down (level : BitVec 7) : (dacStep .hold false level).toNat =
    if 2 ≤ level.toNat then level.toNat - 2 else level.toNat := by
  have hlevel := level.isLt
  have hrange : (0 ≤ (level.toNat : ℤ) - 2 ∧ (level.toNat : ℤ) - 2 ≤ 127) ↔ 2 ≤ level.toNat := by omega
  simp only [dacStep, Bool.false_eq_true, if_false, hrange]
  split_ifs with h
  · have hdown : (level.toNat : ℤ) - 2 = (level.toNat - 2 : ℕ) := by omega
    rw [hdown, toNat_ofInt_level (by omega)]
  · rfl

/-! ## The control write (R216) -/

theorem exec_wr4010_of_enable {d : Byte} (h : dmcIrqField d = true) (s : State) : exec (.wr4010 d) s =
    .next (s.withDmc { s.dmc with irqEnable := true, loopMode := dmcLoopField d, period := periodIndexField d }) := by
  change Host.Outcome.next _ = _
  rw [h, if_pos rfl]

theorem exec_wr4010_of_disable {d : Byte} (h : dmcIrqField d = false) (s : State) : exec (.wr4010 d) s =
    .next (clearDmcIrq (s.withDmc { s.dmc with
      irqEnable := false, loopMode := dmcLoopField d, period := periodIndexField d })) := by
  change Host.Outcome.next _ = _
  rw [h, if_neg Bool.false_ne_true]

end Sys2Proof.Machine

namespace Sys2Proof.Spec

open Sys2Proof.Machine

theorem dmcIrqField_eq_bit (d : Byte) : dmcIrqField d = bit d 7 := (bit_eq_getLsbD d 7).symm

theorem dmcLoopField_eq_bit (d : Byte) : dmcLoopField d = bit d 6 := (bit_eq_getLsbD d 6).symm

theorem dacField_eq_bits (d : Byte) : (dacField d).toNat = bits d 6 0 := (dacField_toNat d).trans (bits_low d 6).symm

/-- Settles O16: by bit 7, which either leaves the flag and the line alone, or clears the flag and drives the line, the
frame flag being the only one left. -/
theorem dmcControlWriteSetsItsFields : Obligations.DmcControlWriteSetsItsFields := by
  intro d s
  rw [← dmcLoopField_eq_bit]
  cases h : bit d 7 with
  | true => exact ⟨_, exec_wr4010_of_enable ((dmcIrqField_eq_bit d).trans h) s, rfl, periodIndexField_eq_bits d, rfl, rfl⟩
  | false =>
    exact ⟨_, exec_wr4010_of_disable ((dmcIrqField_eq_bit d).trans h) s, rfl, periodIndexField_eq_bits d, rfl,
      Bool.or_false _⟩

/-- Settles O17: each write replaces its own field, $4011 by the low 7 bits of the byte. -/
theorem dmcLatchWritesSetTheirFields : Obligations.DmcLatchWritesSetTheirFields := fun d _ =>
  ⟨⟨_, rfl, dacField_eq_bits d, rfl⟩, ⟨_, rfl, rfl, rfl⟩, ⟨_, rfl, rfl, rfl⟩⟩

/-- Settles O45: the four steps, each edge parameter in each direction. -/
theorem dacStepMovesByTwoWithinItsRange : Obligations.DacStepMovesByTwoWithinItsRange := fun level =>
  ⟨dacStep_clamp_up level, dacStep_clamp_down level, dacStep_hold_up level, dacStep_hold_down level⟩

end Sys2Proof.Spec
end

section
/-! PROOF. An expected delivery (R238): the statement ExpectedDeliveryFillsTheBuffer. -/

namespace Sys2Proof.Machine

/-- R238: the next delivery exhausts a sample that loops. -/
abbrev Dmc.LoopsNext (d : Dmc) : Prop := d.lengthCounter.toNat = 1 ∧ d.loopMode = true

/-- R238: the next delivery exhausts a sample that does not loop, with the interrupt enabled. -/
abbrev Dmc.InterruptsNext (d : Dmc) : Prop :=
  d.lengthCounter.toNat = 1 ∧ d.loopMode = false ∧ d.irqEnable = true

theorem dmcReceive_lengthCounter_eq_zero_iff (b : Byte) (d : Dmc) :
    (dmcReceive b d).lengthCounter = 0 ↔ d.lengthCounter.toNat = 1 := by
  change d.lengthCounter - 1 = 0 ↔ _
  bv_omega

theorem dmcDeliver_of_more {s : State} (h : s.dmc.lengthCounter.toNat ≠ 1) (b : Byte) :
    dmcDeliver b s = s.withDmc (dmcReceive b s.dmc) :=
  if_neg ((dmcReceive_lengthCounter_eq_zero_iff b s.dmc).not.mpr h)

theorem dmcDeliver_of_last {s : State} (h : s.dmc.lengthCounter.toNat = 1) (b : Byte) :
    dmcDeliver b s = dmcSampleEnd (s.withDmc (dmcReceive b s.dmc)) :=
  if_pos ((dmcReceive_lengthCounter_eq_zero_iff b s.dmc).mpr h)

theorem dmcDeliver_of_loops {s : State} (h : s.dmc.LoopsNext) (b : Byte) :
    dmcDeliver b s = s.withDmc (dmcLoadSample (dmcReceive b s.dmc)) :=
  (dmcDeliver_of_last h.1 b).trans (if_pos h.2)

theorem dmcDeliver_of_interrupts {s : State} (h : s.dmc.InterruptsNext) (b : Byte) :
    dmcDeliver b s = setDmcIrq (s.withDmc (dmcReceive b s.dmc)) := by
  obtain ⟨hlast, hloop, hirq⟩ := h
  exact (dmcDeliver_of_last hlast b).trans ((if_neg (ne_true_of_eq_false hloop)).trans (if_pos hirq))

theorem dmcDeliver_of_quiet {s : State} (hloops : ¬s.dmc.LoopsNext) (hirq : ¬s.dmc.InterruptsNext) (b : Byte) :
    dmcDeliver b s = s.withDmc (dmcReceive b s.dmc) := by
  by_cases hlast : s.dmc.lengthCounter.toNat = 1
  · have hloop : ¬s.dmc.loopMode = true := fun h => hloops ⟨hlast, h⟩
    exact (dmcDeliver_of_last hlast b).trans
      ((if_neg hloop).trans (if_neg fun h => hirq ⟨hlast, eq_false_of_ne_true hloop, h⟩))
  · exact dmcDeliver_of_more hlast b

/-- All that a delivery that does not fault does (R238). -/
theorem dmcDeliver_eq (b : Byte) (s : State) : dmcDeliver b s = { s with
    dmc := { s.dmc with
      dmaOutstanding := false
      dmaBuffer := b
      dmaBufferValid := true
      readAddress := if s.dmc.LoopsNext then dmcStartAddress s.dmc.addressLatch else s.dmc.readAddress + 1
      lengthCounter := if s.dmc.LoopsNext then dmcStartLength s.dmc.lengthLatch else s.dmc.lengthCounter - 1
      irqPending := if s.dmc.InterruptsNext then true else s.dmc.irqPending }
    irq := if s.dmc.InterruptsNext then true else s.irq } := by
  by_cases hloops : s.dmc.LoopsNext
  · have hirq : ¬s.dmc.InterruptsNext := fun h => Bool.false_ne_true (h.2.1.symm.trans hloops.2)
    rw [dmcDeliver_of_loops hloops]
    simp only [if_pos hloops, if_neg hirq]
    rfl
  · by_cases hirq : s.dmc.InterruptsNext
    · rw [dmcDeliver_of_interrupts hirq, setDmcIrq, updateIrq, Bool.or_true]
      simp only [if_neg hloops, if_pos hirq]
      rfl
    · rw [dmcDeliver_of_quiet hloops hirq]
      simp only [if_neg hloops, if_neg hirq]
      rfl

theorem exec_dmaDeliver_of_expected {s : State} (h : s.deliveryExpected) (b : Byte) :
    exec (.dmaDeliver b) s = .next (dmcDeliver b s) := by
  obtain ⟨houtstanding, hplaying⟩ := h
  exact (if_neg (by simp [houtstanding])).trans (if_neg hplaying)

end Sys2Proof.Machine

namespace Sys2Proof.Spec

open Sys2Proof.Machine

/-- Settles O24: the delivery's own equation, its address and count read as numbers. -/
theorem expectedDeliveryFillsTheBuffer : Obligations.ExpectedDeliveryFillsTheBuffer := by
  intro b s houtstanding hplaying
  refine ⟨_, exec_dmaDeliver_of_expected ⟨houtstanding, hplaying⟩ b, ?_⟩
  rw [dmcDeliver_eq]
  refine ⟨rfl, rfl, fun hnext => ?_, fun hloops => ?_, fun hirq => ?_, fun hquiet => ?_⟩
  · dsimp only
    rw [if_neg hnext, if_neg hnext]
    constructor <;> bv_omega
  · dsimp only
    rw [if_pos hloops, if_pos hloops]
    exact ⟨dmcStartAddress_toNat _, dmcStartLength_toNat _⟩
  · exact ⟨if_pos hirq, if_pos hirq⟩
  · exact ⟨if_neg hquiet, if_neg hquiet⟩

end Sys2Proof.Spec
end

section
/-! PROOF. The DMC's clock (R232, R234): its start delay, its timer, the step of level and cursor, the byte that the
cursor's wrap takes and the request it makes, each as an equation, and all of them together as `dmcAdvance_eq`. -/

namespace Sys2Proof.Machine

theorem dmcWantsByte_iff (d : Dmc) :
    dmcWantsByte d = true ↔ d.lengthCounter ≠ 0 ∧ d.dmaBufferValid = false ∧ d.dmaOutstanding = false := by
  simp [dmcWantsByte, and_assoc]

/-! ## The start delay -/

/-- R232, R234: the start delay ends in this clock, and its end asks for a byte. -/
def Dmc.delayAsks (d : Dmc) : Bool := d.dmaDelayCounter == 1 && dmcWantsByte d

theorem Dmc.delayAsks_iff (d : Dmc) : d.delayAsks = true ↔ d.dmaDelayCounter.toNat = 1 ∧
    d.lengthCounter ≠ 0 ∧ d.dmaBufferValid = false ∧ d.dmaOutstanding = false := by
  rw [delayAsks, Bool.and_eq_true, beq_iff_eq, dmcWantsByte_iff]
  exact and_congr_left' (BitVec.toNat_inj (y := 1)).symm

/-- R232: the start delay counted down by one, before it is looked at. -/
def DmcTick.delayDown (x : DmcTick) : DmcTick :=
  { x with dmc := { x.dmc with dmaDelayCounter := x.dmc.dmaDelayCounter - 1 } }

theorem DmcTick.delayDown_dmaDelayCounter_eq_zero_iff (x : DmcTick) :
    x.delayDown.dmc.dmaDelayCounter = 0 ↔ x.dmc.dmaDelayCounter = 1 := by
  change x.dmc.dmaDelayCounter - 1 = 0 ↔ _
  bv_omega

/-- R232: the start delay after a clock, which stays at 0 once it is there. -/
def Dmc.delayNext (d : Dmc) : BitVec 2 := if d.dmaDelayCounter = 0 then 0 else d.dmaDelayCounter - 1

theorem Dmc.delayNext_toNat (d : Dmc) : d.delayNext.toNat = d.dmaDelayCounter.toNat - 1 := by
  unfold delayNext
  split_ifs with hoff
  · rw [hoff]; rfl
  · bv_omega

/-- All that the start delay does: nothing once it is over, an end that may ask for a byte, or a count. -/
theorem dmcDelayStep_eq (x : DmcTick) : dmcDelayStep x =
    ⟨{ x.dmc with
        dmaDelayCounter := x.dmc.delayNext
        dmaOutstanding := x.dmc.dmaOutstanding || x.dmc.delayAsks },
      if x.dmc.delayAsks then some x.dmc.readAddress else x.request⟩ := by
  by_cases hoff : x.dmc.dmaDelayCounter = 0
  · have hasks : x.dmc.delayAsks = false := by rw [Dmc.delayAsks, hoff]; rfl
    have hnext : x.dmc.delayNext = x.dmc.dmaDelayCounter := by rw [Dmc.delayNext, if_pos hoff, hoff]
    rw [hasks, hnext, Bool.or_false]
    exact if_pos hoff
  · have hstep : dmcDelayStep x =
        if x.dmc.dmaDelayCounter = 1 then requestIfNeeded x.delayDown else x.delayDown :=
      (if_neg hoff).trans (if_congr x.delayDown_dmaDelayCounter_eq_zero_iff rfl rfl)
    rw [hstep, Dmc.delayNext, if_neg hoff]
    by_cases hends : x.dmc.dmaDelayCounter = 1
    · have hasks : x.dmc.delayAsks = dmcWantsByte x.dmc := by rw [Dmc.delayAsks, hends]; rfl
      rw [if_pos hends, requestIfNeeded_eq, hasks]
      rfl
    · have hasks : x.dmc.delayAsks = false := by rw [Dmc.delayAsks, beq_false_of_ne hends]; rfl
      rw [if_neg hends, hasks, Bool.or_false]
      rfl

/-! ## The cursor's wrap -/

/-- R232: the buffered byte taken to be played, before the next one is asked for. -/
def DmcTick.consume (x : DmcTick) : DmcTick :=
  { x with dmc := { x.dmc with sample := x.dmc.dmaBuffer, sampleValid := true, dmaBufferValid := false } }

/-- R232, R234: a wrap of the cursor finds a byte to take, and asks for the next. -/
def Dmc.wrapAsks (d : Dmc) : Bool := d.lengthCounter != 0 && d.dmaBufferValid && !d.dmaOutstanding

theorem Dmc.wrapAsks_iff (d : Dmc) : d.wrapAsks = true ↔
    d.lengthCounter ≠ 0 ∧ d.dmaBufferValid = true ∧ d.dmaOutstanding = false := by
  simp [wrapAsks, and_assoc]

/-- All that a wrap of the cursor does. -/
theorem dmcWrap_eq (x : DmcTick) : dmcWrap x =
    ⟨{ x.dmc with
        sample := if x.dmc.dmaBufferValid then x.dmc.dmaBuffer else x.dmc.sample
        sampleValid := x.dmc.dmaBufferValid
        dmaBufferValid := false
        dmaOutstanding := x.dmc.dmaOutstanding || x.dmc.wrapAsks },
      if x.dmc.wrapAsks then some x.dmc.readAddress else x.request⟩ := by
  by_cases hbuffer : x.dmc.dmaBufferValid = true
  · have hwrap : dmcWrap x = requestIfNeeded x.consume := if_pos hbuffer
    have hasks : dmcWantsByte x.consume.dmc = x.dmc.wrapAsks := by
      simp [dmcWantsByte, Dmc.wrapAsks, hbuffer, DmcTick.consume]
    rw [hwrap, requestIfNeeded_eq, hasks, hbuffer]
    rfl
  · simp [dmcWrap, Dmc.wrapAsks, hbuffer]

/-! ## The timer -/

/-- R232: the timer underflows in this clock. -/
def Dmc.underflows (d : Dmc) : Bool := d.periodCounter == 1

/-- R232: the cursor wraps in this clock. -/
def Dmc.wraps (d : Dmc) : Bool := d.underflows && d.bitCounter == 7

theorem Dmc.underflows_iff (d : Dmc) : d.underflows = true ↔ d.periodCounter.toNat = 1 := by
  rw [underflows, beq_iff_eq]
  bv_omega

theorem Dmc.wraps_iff (d : Dmc) : d.wraps = true ↔ d.periodCounter.toNat = 1 ∧ d.bitCounter.toNat = 7 := by
  rw [wraps, Bool.and_eq_true, underflows_iff, beq_iff_eq]
  bv_omega

theorem DmcTick.countDown_periodCounter_eq_zero_iff (x : DmcTick) :
    x.countDown.dmc.periodCounter = 0 ↔ x.dmc.underflows = true := by
  rw [Dmc.underflows_iff]
  change x.dmc.periodCounter - 1 = 0 ↔ _
  bv_omega

theorem dmcTimerStep_of_counting {x : DmcTick} (h : x.dmc.underflows = false) (c : Config) :
    dmcTimerStep c x = ⟨{ x.dmc with periodCounter := x.dmc.periodCounter - 1 }, x.request⟩ :=
  if_neg (x.countDown_periodCounter_eq_zero_iff.not.mpr (ne_true_of_eq_false h))

theorem dmcShift_bitCounter_eq_zero_iff {d : Dmc} (h : d.underflows = true) (edge : DacEdge) :
    (dmcShift edge d).bitCounter = 0 ↔ d.wraps = true := by
  rw [Dmc.wraps, h, Bool.true_and, beq_iff_eq]
  change d.bitCounter + 1 = 0 ↔ _
  bv_omega

/-- An underflow within a byte moves level and cursor, and reloads the timer. -/
theorem dmcTimerStep_of_within {x : DmcTick} (h : x.dmc.underflows = true) (hwraps : x.dmc.wraps = false) (c : Config) :
    dmcTimerStep c x = ⟨{ dmcShift c.dacEdge x.dmc with periodCounter := dmcReload c x.dmc.period }, x.request⟩ := by
  have hunder : dmcUnderflow c.dacEdge x.countDown = ⟨dmcShift c.dacEdge x.countDown.dmc, x.request⟩ :=
    if_neg ((dmcShift_bitCounter_eq_zero_iff h c.dacEdge).not.mpr (ne_true_of_eq_false hwraps))
  rw [dmcTimerStep_eq, if_pos (x.countDown_periodCounter_eq_zero_iff.mpr h), hunder]
  rfl

theorem Dmc.underflows_of_wraps {d : Dmc} (h : d.wraps = true) : d.underflows = true := (Bool.and_eq_true_iff.mp h).1

/-- An underflow at a byte's last bit does so too, and wraps the cursor. -/
theorem dmcTimerStep_of_wraps {x : DmcTick} (h : x.dmc.wraps = true) (c : Config) : dmcTimerStep c x =
    ⟨{ dmcShift c.dacEdge x.dmc with
        sample := if x.dmc.dmaBufferValid then x.dmc.dmaBuffer else x.dmc.sample
        sampleValid := x.dmc.dmaBufferValid
        dmaBufferValid := false
        dmaOutstanding := x.dmc.dmaOutstanding || x.dmc.wrapAsks
        periodCounter := dmcReload c x.dmc.period },
      if x.dmc.wrapAsks then some x.dmc.readAddress else x.request⟩ := by
  have hunder : dmcUnderflow c.dacEdge x.countDown = dmcWrap ⟨dmcShift c.dacEdge x.countDown.dmc, x.request⟩ :=
    if_pos ((dmcShift_bitCounter_eq_zero_iff (Dmc.underflows_of_wraps h) c.dacEdge).mpr h)
  rw [dmcTimerStep_eq, if_pos (x.countDown_periodCounter_eq_zero_iff.mpr (Dmc.underflows_of_wraps h)), hunder,
    dmcWrap_eq]
  rfl

/-! ## The whole clock -/

/-- R232, R234: this clock requests a byte. -/
def Dmc.asks (d : Dmc) : Bool := d.delayAsks || (d.wraps && d.wrapAsks)

/-- All that the clock does (R232): the timer always moves, an underflow shifts level and cursor, a wrap takes the
buffered byte, and at most one byte is asked for. -/
theorem dmcAdvance_eq (c : Config) (d : Dmc) : dmcAdvance c d =
    ⟨{ d with
        periodCounter := if d.underflows then dmcReload c d.period else d.periodCounter - 1
        dacLatch := if d.underflows then (dmcShift c.dacEdge d).dacLatch else d.dacLatch
        bitCounter := if d.underflows then d.bitCounter + 1 else d.bitCounter
        sample := if d.wraps && d.dmaBufferValid then d.dmaBuffer else d.sample
        sampleValid := if d.wraps then d.dmaBufferValid else d.sampleValid
        dmaBufferValid := if d.wraps then false else d.dmaBufferValid
        dmaDelayCounter := d.delayNext
        dmaOutstanding := d.dmaOutstanding || d.asks },
      if d.asks then some d.readAddress else none⟩ := by
  rw [dmcAdvance, dmcDelayStep_eq]
  cases hunder : d.underflows with
  | false =>
    have hwraps : d.wraps = false := by rw [Dmc.wraps, hunder, Bool.false_and]
    rw [dmcTimerStep_of_counting hunder]
    simp [Dmc.asks, hwraps]
  | true => cases hwraps : d.wraps with
    | false =>
      rw [dmcTimerStep_of_within hunder hwraps]
      simp [dmcShift, Dmc.asks, hwraps]
    | true =>
      rw [dmcTimerStep_of_wraps hwraps]
      cases hasks : d.delayAsks <;> simp [dmcShift, Dmc.asks, Dmc.wrapAsks, hwraps, hasks]

end Sys2Proof.Machine
end

section
/-! PROOF. The DMC in a tick (R232, R234 to R237), from its clock's equation: the statements TickRunsTheDmc,
TickRequestsAByteOnlyWhenOneIsNeeded and DmcTimingIgnoresDeliveries. -/

namespace Sys2Proof.Machine

theorem tick_dmc (s : State) : (tick s).dmc = (dmcAdvance s.cfg s.dmc).dmc := by
  rw [tick_eq]

theorem tick_dmaRequest (s : State) :
    (tick s).dmaRequest = if s.dmc.asks then some (dmcBusAddr s.cfg s.dmc.readAddress) else none := by
  rw [tick_eq, dmcAdvance_eq]
  exact apply_ite (Option.map (dmcBusAddr s.cfg)) _ _ _

theorem tick_dmaAddress (s : State) :
    (tick s).dmaAddress = if s.dmc.asks then dmcBusAddr s.cfg s.dmc.readAddress else s.dmaAddress := by
  rw [tick_eq, dmcAdvance_eq]
  cases s.dmc.asks <;> rfl

/-- R235: a request that a tick makes outstanding finds the buffer empty after it. -/
theorem tick_buffer_empty_of_outstanding {s : State} (hnone : s.dmc.dmaOutstanding = false)
    (hout : (tick s).dmc.dmaOutstanding = true) : (tick s).dmc.dmaBufferValid = false := by
  have hinv : s.dmc.RequestInv := fun h => absurd (hnone.symm.trans h) Bool.false_ne_true
  rw [tick_dmc] at hout ⊢
  exact (Dmc.RequestInv.delayStep (x := ⟨s.dmc, none⟩) hinv).timerStep s.cfg hout

end Sys2Proof.Machine

namespace Sys2Proof.Spec

open Sys2Proof.Machine

theorem requestNext_iff (s : State) : RequestNext s ↔ s.dmc.asks = true := by
  rw [RequestNext, Dmc.asks, Bool.or_eq_true, Dmc.delayAsks_iff, Bool.and_eq_true, Dmc.wraps_iff, Dmc.wrapAsks_iff]
  tauto

/-- Settles O34: by whether the timer underflows, and whether the cursor wraps with it. -/
theorem tickRunsTheDmc : Obligations.TickRunsTheDmc := by
  intro s t h
  obtain rfl := eq_tick_of_exec h
  rw [tick_out, tick_dmc, dmcAdvance_eq]
  refine ⟨rfl, fun hmore => ?_, fun hone => ?_⟩
  · have hunder : s.dmc.underflows = false := eq_false_of_ne_true (s.dmc.underflows_iff.not.mpr hmore)
    have hwraps : s.dmc.wraps = false := eq_false_of_ne_true fun h => hmore (s.dmc.wraps_iff.mp h).1
    rw [hunder, hwraps]
    exact ⟨rfl, rfl, rfl, rfl, rfl, rfl⟩
  · have hunder : s.dmc.underflows = true := s.dmc.underflows_iff.mpr hone
    rw [hunder, bit_eq_getLsbD]
    refine ⟨dmcReload_eq _ _, BitVec.toNat_add _ _, rfl, fun hbit => ?_, fun hbit => ?_⟩
    · have hwraps : s.dmc.wraps = false := eq_false_of_ne_true fun h => hbit (s.dmc.wraps_iff.mp h).2
      rw [hwraps]
      exact ⟨rfl, rfl, rfl⟩
    · have hwraps : s.dmc.wraps = true := s.dmc.wraps_iff.mpr ⟨hone, hbit⟩
      rw [hwraps]
      exact ⟨rfl, rfl, rfl⟩

/-- Settles O35: by whether the clock asks for a byte. It asks only where none is outstanding, and the buffer is empty
then as R235 demands. -/
theorem tickRequestsAByteOnlyWhenOneIsNeeded : Obligations.TickRequestsAByteOnlyWhenOneIsNeeded := by
  intro s t h
  obtain rfl := eq_tick_of_exec h
  rw [requestNext_iff, tick_dmaRequest, tick_dmaAddress]
  have hdelay : (tick s).dmc.dmaDelayCounter.toNat = s.dmc.dmaDelayCounter.toNat - 1 := by
    rw [tick_dmc, dmcAdvance_eq]
    exact s.dmc.delayNext_toNat
  have hout : (tick s).dmc.dmaOutstanding = (s.dmc.dmaOutstanding || s.dmc.asks) := by
    rw [tick_dmc, dmcAdvance_eq]
  refine ⟨hdelay, ?_⟩
  cases hasks : s.dmc.asks with
  | true =>
    obtain ⟨hplaying, hnone, -⟩ := (requestNext_iff s).mpr hasks
    rw [hasks, Bool.or_true] at hout
    have hempty : (tick s).dmc.dmaBufferValid = false := tick_buffer_empty_of_outstanding hnone hout
    refine ⟨fun _ => ⟨rfl, hout⟩, fun h => absurd rfl h, fun a ha => ?_, nofun⟩
    cases ha
    exact ⟨hnone, hout, hplaying, hempty, rfl, rfl, dmcBusAddr_default _ _⟩
  | false =>
    rw [hasks, Bool.or_false] at hout
    exact ⟨nofun, fun _ => rfl, nofun, fun _ => ⟨hout, rfl⟩⟩

/-- Settles O57: the clock computes timer and cursor from the parameters, the rate, the timer and the cursor only, and a
delivery writes none of the fields named. -/
theorem dmcTimingIgnoresDeliveries : Obligations.DmcTimingIgnoresDeliveries := by
  constructor
  · intro s₁ s₂ t₁ t₂ hcfg hperiod htimer hcursor h₁ h₂
    obtain rfl := eq_tick_of_exec h₁
    obtain rfl := eq_tick_of_exec h₂
    rw [tick_dmc, tick_dmc, dmcAdvance_eq, dmcAdvance_eq]
    dsimp only
    rw [Dmc.underflows, Dmc.underflows, hcfg, hperiod, htimer, hcursor]
    exact ⟨rfl, rfl⟩
  · intro b s t h
    obtain ⟨-, rfl⟩ := execDmaDeliver_next h
    rw [dmcDeliver_eq]
    exact ⟨rfl, rfl, rfl, rfl, rfl⟩

end Sys2Proof.Spec
end

section
/-! PROOF. A sample of one byte (R239), from its start to the ticks after its last delivery: the statement
OneByteSampleEndsIdleAndInterruptsOnce. -/

namespace Sys2Proof.Machine

theorem dmcStart_lengthCounter_of_idle {d : Dmc} (h : d.lengthCounter = 0) (n : BitVec 2) :
    (dmcStart n d).lengthCounter = dmcStartLength d.lengthLatch := by
  rw [dmcStart_idle n d h]

/-- R287, R230: a write of $4015 with bit 4 set loads the length of an idle channel from its latch. -/
theorem exec_wr4015_start_lengthCounter {d : Byte} {s t : State} (h : exec (.wr4015 d) s = .next t)
    (hstart : d.getLsbD 4 = true) (hidle : s.dmc.lengthCounter = 0) :
    t.dmc.lengthCounter = dmcStartLength s.dmc.lengthLatch := by
  cases h
  rw [updateIrq_dmc, State.withDmc_dmc, if_pos hstart]
  exact dmcStart_lengthCounter_of_idle (d := { s.dmc with irqPending := false }) hidle _

/-- R234: an idle channel asks for nothing. -/
theorem Dmc.asks_of_idle {d : Dmc} (h : d.lengthCounter = 0) : d.asks = false := by
  simp [asks, delayAsks, dmcWantsByte, wrapAsks, h]

end Sys2Proof.Machine

namespace Sys2Proof.Spec

open Sys2Proof.Machine

/-- Ticks move neither the count of bytes that remain nor the interrupt flag (R232). -/
theorem ticks_lengthCounter_irqPending (n : ℕ) (s : State) :
    (ticks n s).dmc.lengthCounter = s.dmc.lengthCounter ∧ (ticks n s).dmc.irqPending = s.dmc.irqPending := by
  induction n with
  | zero => exact ⟨rfl, rfl⟩
  | succ n ih =>
    rw [ticks, Function.iterate_succ_apply', tick_dmc, dmcAdvance_lengthCounter, dmcAdvance_irqPending]
    exact ih

/-- Settles O58: the start loads the length of its latch, the one delivery takes it to 0, and from there no tick asks for
a byte or moves the flag. -/
theorem oneByteSampleEndsIdleAndInterruptsOnce : Obligations.OneByteSampleEndsIdleAndInterruptsOnce := by
  refine ⟨fun d s t h hstart hidle hlatch => ?_, fun b s t h hlast hloop => ?_, fun s n hidle => ?_⟩
  · rw [exec_wr4015_start_lengthCounter h ((bit_eq_getLsbD d 4).symm.trans hstart) hidle, dmcStartLength_toNat, hlatch]
    rfl
  · obtain ⟨-, rfl⟩ := execDmaDeliver_next h
    have hloops : ¬s.dmc.LoopsNext := fun h => Bool.false_ne_true (hloop.symm.trans h.2)
    have hirq : s.dmc.InterruptsNext ↔ s.dmc.irqEnable = true := ⟨fun h => h.2.2, fun h => ⟨hlast, hloop, h⟩⟩
    rw [dmcDeliver_eq]
    simp only [if_neg hloops, if_congr hirq rfl rfl]
    exact ⟨by bv_omega, by cases s.dmc.irqEnable <;> simp⟩
  · obtain ⟨hlength, hirq⟩ := ticks_lengthCounter_irqPending (n + 1) s
    refine ⟨?_, hirq, hlength.trans hidle⟩
    rw [ticks, Function.iterate_succ_apply', tick_dmaRequest, Dmc.asks_of_idle]
    · rfl
    · exact (ticks_lengthCounter_irqPending n s).1.trans hidle

end Sys2Proof.Spec
end

section
/-! PROOF. The write of $4017 (R258, R260): its effect in one equation, and the statement
FrameWriteSetsModeAndDelaysTheRestart. -/

namespace Sys2Proof.Machine

/-- R258, R260: the acknowledgement comes with the inhibit only, and the draw does not depend on it. -/
theorem exec_wr4017 (d : Byte) (s : State) : exec (.wr4017 d) s = .next { s with
    fs := { s.fs with
      mode := frameModeField d
      irqInhibit := frameInhibitField d
      irqPending := s.fs.irqPending && !frameInhibitField d
      delay := true
      delayCounter := frameDelayDraw s }
    irq := if frameInhibitField d then s.dmc.irqPending else s.irq } := by
  change execWr4017 d s = _
  unfold execWr4017
  cases frameInhibitField d
  · rw [Bool.not_false, Bool.and_true]
    rfl
  · rw [Bool.not_true, Bool.and_false]
    rfl

theorem frameDelayDraw_of_short {s : State} (h : s.draws.frameDelay = some .short) : frameDelayDraw s = 1 := by
  rw [frameDelayDraw, h]
  rfl

theorem frameDelayDraw_of_long {s : State} (h : s.draws.frameDelay = some .long) : frameDelayDraw s = 2 := by
  rw [frameDelayDraw, h]
  rfl

end Sys2Proof.Machine

namespace Sys2Proof.Spec

open Sys2Proof.Machine

theorem frameModeField_eq_bit (d : Byte) : frameModeField d = bit d 7 := (bit_eq_getLsbD d 7).symm

theorem frameInhibitField_eq_bit (d : Byte) : frameInhibitField d = bit d 6 := (bit_eq_getLsbD d 6).symm

/-- Settles O19: the one state the write can leave, whose delay is the draw. -/
theorem frameWriteSetsModeAndDelaysTheRestart : Obligations.FrameWriteSetsModeAndDelaysTheRestart := by
  intro d s
  rw [exec_wr4017, frameModeField_eq_bit, frameInhibitField_eq_bit]
  refine ⟨_, rfl, rfl, rfl, ?_, fun hshort => ?_, fun hlong => ?_, rfl⟩
  · exact (frameDelayDraw_eq s).imp (congrArg BitVec.toNat) (congrArg BitVec.toNat)
  · exact congrArg BitVec.toNat (frameDelayDraw_of_short hshort)
  · exact congrArg BitVec.toNat (frameDelayDraw_of_long hlong)

end Sys2Proof.Spec
end

section
/-! PROOF. The envelopes, the linear counter and the sweeps in a tick (R253 to R255, R259): what clocks them, that the
channels then leave them, and the statement TickClocksEnvelopesLinearCounterAndSweeps. -/

namespace Sys2Proof.Machine

/-- R254, R259: the quarter-frame clock comes with a restart of the 5-step mode, or with the steps of
`FS_QUARTER_STEPS`. -/
theorem frameEvents_quarter (c : Config) (f : FrameSequencer) : (frameEvents c f).quarter = true ↔
    (frameExpires f = true ∧ f.mode = true) ∨ (frameFires f = true ∧ stepIn c.quarterSteps f.step = true) := by
  unfold frameEvents
  split_ifs with hexp hfire
  · simp [frameFires, hexp]
  · simp [stepEvents, hexp, hfire]
  · simp [hexp, hfire]

/-! ## What a channel's own clock leaves -/

theorem triTimerStep_frame (t : Triangle) : triTimerStep t =
    { t with periodCounter := (triTimerStep t).periodCounter, stepCounter := (triTimerStep t).stepCounter } := by
  simp only [triTimerStep]; split_ifs <;> rfl

theorem triAdvance_frame (t : Triangle) : triAdvance t =
    { t with periodCounter := (triAdvance t).periodCounter, stepCounter := (triAdvance t).stepCounter } := by
  unfold triAdvance
  split_ifs
  · rfl
  · exact triTimerStep_frame t

theorem noiseTimerStep_frame (c : Config) (n : Noise) : noiseTimerStep c n =
    { n with periodCounter := (noiseTimerStep c n).periodCounter, lfsr := (noiseTimerStep c n).lfsr } := by
  simp only [noiseTimerStep]; split_ifs <;> rfl

theorem noiseAdvance_frame (c : Config) (n : Noise) : noiseAdvance c n =
    { n with periodCounter := (noiseAdvance c n).periodCounter, lfsr := (noiseAdvance c n).lfsr } := by
  unfold noiseAdvance
  split_ifs
  · exact noiseTimerStep_frame c n
  · rfl
  · exact noiseTimerStep_frame c n

/-! ## The clocked units after a tick -/

section
variable (s : State)

theorem tick_p1_env : (tick s).p1.env = (frameTick s).p1.env := by rw [tick_p1, pulseAdvance_frame]
theorem tick_p2_env : (tick s).p2.env = (frameTick s).p2.env := by rw [tick_p2, pulseAdvance_frame]
theorem tick_p1_sweep : (tick s).p1.sweep = (frameTick s).p1.sweep := by rw [tick_p1, pulseAdvance_frame]
theorem tick_p2_sweep : (tick s).p2.sweep = (frameTick s).p2.sweep := by rw [tick_p2, pulseAdvance_frame]
theorem tick_noise_env : (tick s).noise.env = (frameTick s).noise.env := by rw [tick_eq, noiseAdvance_frame]
theorem tick_tri_linearLengthCounter : (tick s).tri.linearLengthCounter = (frameTick s).tri.linearLengthCounter := by
  rw [tick_eq, triAdvance_frame]
theorem tick_tri_reloadLinear : (tick s).tri.reloadLinear = (frameTick s).tri.reloadLinear := by
  rw [tick_eq, triAdvance_frame]

end

/-- R186: the linear clock moves the counter and the reload flag only, and the half-frame clock neither. -/
theorem triFrame_eq (ev : FrameEvents) (t : Triangle) : triFrame ev t = { t with
    linearLengthCounter := if ev.quarter then (triClockLinear t).linearLengthCounter else t.linearLengthCounter
    reloadLinear := if ev.quarter then (triClockLinear t).reloadLinear else t.reloadLinear
    len := (triFrame ev t).len } := by
  simp only [triFrame]; split_ifs <;> rfl

end Sys2Proof.Machine

namespace Sys2Proof.Spec

open Sys2Proof.Machine

theorem quarterNext_iff (s : State) : QuarterNext s ↔ (frameEvents s.cfg s.fs).quarter = true := by
  rw [QuarterNext, InSteps, ← stepIn_iff, restartNext_iff, stepNext_iff, frameEvents_quarter]

/-- Settles O29: the frame sequencer clocks the units, by the two clocks of its tick, and the channels leave them as it
hands them on. -/
theorem tickClocksEnvelopesLinearCounterAndSweeps : Obligations.TickClocksEnvelopesLinearCounterAndSweeps := by
  intro s t h
  obtain rfl := eq_tick_of_exec h
  rw [quarterNext_iff, halfNext_iff, tick_p1_env, tick_p2_env, tick_noise_env, tick_p1_sweep, tick_p2_sweep,
    tick_tri_linearLengthCounter, tick_tri_reloadLinear, frameTick_p1, frameTick_p2, frameTick_noise, frameTick_tri,
    triFrame_eq]
  refine ⟨fun hq => ?_, fun hq => ?_, fun hh => ?_, fun hh => ?_, rfl, rfl, rfl, rfl⟩
  · exact ⟨if_pos hq, if_pos hq, if_pos hq, if_pos hq, if_pos hq⟩
  · exact ⟨if_neg hq, if_neg hq, if_neg hq, if_neg hq, if_neg hq⟩
  · exact ⟨if_pos hh, if_pos hh⟩
  · exact ⟨if_neg hh, if_neg hh⟩

end Sys2Proof.Spec
end

section
/-! PROOF. The frame sequencer in the ticks with no reset pending (R252, R257): its count down, the step it enters at
the end of it, the whole sequence, and the statement FrameSequenceRepeatsAfterItsPeriods. -/

namespace Sys2Proof.Machine

/-! ## The periods -/

/-- R250: `FS_PERIOD[REGION][mode]`. -/
def framePeriods (c : Config) (mode : Bool) : Vector (BitVec 16) 6 :=
  if mode then c.tables.framePeriod5 else c.tables.framePeriod4

theorem nextFrameStep_toNat (k : BitVec 3) : (nextFrameStep k).toNat = (k.toNat + 1) % 6 := by
  rw [nextFrameStep, BitVec.toNat_ofNat]
  omega

/-- R252: the step reached by `m` steps of a sequence. -/
theorem nextFrameStep_ofNat_mod (m : ℕ) :
    nextFrameStep (BitVec.ofNat 3 (m % 6)) = BitVec.ofNat 3 ((m + 1) % 6) := by
  rw [nextFrameStep, BitVec.toNat_ofNat]
  congr 1
  omega

/-- R250: no frame period is 0, whatever the waveform table, which `framePeriod` does not read. -/
theorem framePeriod_ne_zero_of_tables {c : Config} (h : c.tables.wf) (mode : Bool) (k : BitVec 3) :
    framePeriod c mode k ≠ 0 :=
  framePeriod_ne_zero { c with dutyTable := defaultDutyTable } ⟨h, (by decide : dutyTableWf defaultDutyTable)⟩ mode k

theorem framePeriods_getElem {m : ℕ} (h : m < 6) (c : Config) (mode : Bool) :
    (framePeriods c mode)[m] = framePeriod c mode (BitVec.ofNat 3 (m % 6)) := by
  have hm : (BitVec.ofNat 3 (m % 6)).toNat = m := by rw [BitVec.toNat_ofNat]; omega
  have hentry := framePeriod_eq c mode (BitVec.ofNat 3 (m % 6)) (by omega)
  rw [hm, Vector.getElem?_eq_getElem h] at hentry
  exact Option.some.inj hentry

/-! ## The sequencer's own tick -/

/-- R252: the sequencer after one tick, its interrupt flag included. -/
def frameAdvance (c : Config) (f : FrameSequencer) : FrameSequencer :=
  { frameNext c f with irqPending := f.irqPending || (frameEvents c f).irq }

theorem tick_fs (s : State) : (tick s).fs = frameAdvance s.cfg s.fs := by
  rw [tick_eq, frameTick_fs, frameNext_irqPending]
  rfl

theorem tick_cfg (s : State) : (tick s).cfg = s.cfg := by rw [tick_eq]

section
variable {f : FrameSequencer} (hdelay : f.delay = false)
include hdelay

theorem frameExpires_of_no_delay : frameExpires f = false := by simp [frameExpires, hdelay]

theorem frameNext_of_no_delay (c : Config) : frameNext c f = frameCount c f := by
  simp [frameNext, frameDelayStep, frameExpires_of_no_delay hdelay, hdelay]

theorem frameEvents_of_no_delay (c : Config) :
    frameEvents c f = if f.counter = 1 then stepEvents c f else ⟨false, false, false⟩ := by
  simp [frameEvents, frameFires, frameExpires_of_no_delay hdelay]

theorem frameAdvance_of_counting (h : f.counter ≠ 1) (c : Config) :
    frameAdvance c f = { f with counter := f.counter - 1 } := by
  rw [frameAdvance, frameNext_of_no_delay hdelay, frameEvents_of_no_delay hdelay, frameCount, if_neg h, if_neg h,
    Bool.or_false]

/-- R252, R254: the tick that finds the counter at 1 fires the step and enters the next one. -/
theorem frameAdvance_of_firing (h : f.counter = 1) (c : Config) : frameAdvance c f = { f with
    step := nextFrameStep f.step
    counter := framePeriod c f.mode (nextFrameStep f.step)
    irqPending := f.irqPending || (stepEvents c f).irq } := by
  rw [frameAdvance, frameNext_of_no_delay hdelay, frameEvents_of_no_delay hdelay, frameCount, if_pos h, if_pos h]

theorem frameAdvance_iterate (c : Config) {n : ℕ} (h : n < f.counter.toNat) :
    (frameAdvance c)^[n] f = { f with counter := f.counter - BitVec.ofNat 16 n } :=
  iterate_countdown (g := fun v => { f with counter := v })
    (fun v hv => frameAdvance_of_counting (f := { f with counter := v }) hdelay hv c) _ n h

end

/-! ## The sequence -/

/-- `g` is `f` at the start of the step `k`, whatever the interrupt flag. -/
def FrameSequencer.Enters (c : Config) (k : BitVec 3) (f g : FrameSequencer) : Prop :=
  g = { f with step := k, counter := framePeriod c f.mode k, irqPending := g.irqPending }

section
variable {c : Config} {f g : FrameSequencer} {k : BitVec 3}

theorem FrameSequencer.Enters.fields (h : f.Enters c k g) :
    g.mode = f.mode ∧ g.step = k ∧ g.counter = framePeriod c f.mode k ∧ g.delay = f.delay := by
  rw [h]
  exact ⟨rfl, rfl, rfl, rfl⟩

theorem FrameSequencer.Enters.trans (h : f.Enters c k g) {k' : BitVec 3} {g' : FrameSequencer}
    (h' : g.Enters c k' g') : f.Enters c k' g' := by
  rw [Enters, h] at h'
  exact h'

/-- A sequencer at the start of its own step changes in the flag only when it enters that step again. -/
theorem FrameSequencer.Enters.frame (hstart : f.Enters c k f) (h : f.Enters c k g) :
    g = { f with irqPending := g.irqPending } := by
  obtain ⟨-, hstep, hcounter, -⟩ := hstart.fields
  rwa [Enters, ← hcounter, ← hstep] at h

/-- R252: the counter is the number of ticks until the next step is entered. -/
theorem frameAdvance_iterate_counter (hdelay : f.delay = false) (hne : f.counter ≠ 0) (c : Config) :
    f.Enters c (nextFrameStep f.step) ((frameAdvance c)^[f.counter.toNat] f) := by
  have hfire : (frameAdvance c)^[f.counter.toNat] f = frameAdvance c { f with counter := 1 } :=
    iterate_underflow (g := fun v => { f with counter := v })
      (fun v hv => frameAdvance_of_counting (f := { f with counter := v }) hdelay hv c) hne
  rw [hfire, frameAdvance_of_firing (f := { f with counter := 1 }) hdelay rfl]
  rfl

/-- R257: from the start of a sequence the step `m` is entered after the sum of the periods of the steps before it. -/
theorem frameAdvance_iterate_periods (hc : c.tables.wf) (hdelay : f.delay = false) (hstart : f.Enters c 0 f) {m : ℕ}
    (hm : m ≤ 6) : f.Enters c (BitVec.ofNat 3 (m % 6))
      ((frameAdvance c)^[(((framePeriods c f.mode).toList.map BitVec.toNat).take m).sum] f) := by
  induction m with
  | zero => exact hstart
  | succ m ih =>
    have hprev := ih (by omega)
    obtain ⟨-, hstep, hcounter, hdelay'⟩ := hprev.fields
    have hnext := frameAdvance_iterate_counter (hdelay'.trans hdelay)
      (hcounter.trans_ne (framePeriod_ne_zero_of_tables hc _ _)) c
    have hsum : (((framePeriods c f.mode).toList.map BitVec.toNat).take (m + 1)).sum =
        (framePeriod c f.mode (BitVec.ofNat 3 (m % 6))).toNat +
          (((framePeriods c f.mode).toList.map BitVec.toNat).take m).sum := by
      rw [List.sum_take_succ _ _ (by simpa using hm), List.getElem_map, Vector.getElem_toList, framePeriods_getElem hm,
        Nat.add_comm]
    rw [hstep, hcounter, nextFrameStep_ofNat_mod] at hnext
    rw [hsum, Function.iterate_add_apply]
    exact hprev.trans hnext

end

end Sys2Proof.Machine

namespace Sys2Proof.Spec

open Sys2Proof.Machine

theorem ticks_succ (n : ℕ) (s : State) : ticks (n + 1) s = tick (ticks n s) := Function.iterate_succ_apply' tick n s

theorem ticks_cfg (n : ℕ) (s : State) : (ticks n s).cfg = s.cfg := by
  induction n with
  | zero => rfl
  | succ n ih => rw [ticks_succ, tick_cfg, ih]

theorem ticks_fs (n : ℕ) (s : State) : (ticks n s).fs = (frameAdvance s.cfg)^[n] s.fs := by
  induction n with
  | zero => rfl
  | succ n ih => rw [ticks_succ, tick_fs, ticks_cfg, ih, Function.iterate_succ_apply']

/-- Settles O49: a tick counts down or, from 1, enters the next step, and the six steps of a sequence lead back to the
first. -/
theorem frameSequenceRepeatsAfterItsPeriods : Obligations.FrameSequenceRepeatsAfterItsPeriods := by
  refine ⟨fun s n hdelay hn => ?_, fun s hdelay hne => ?_, fun s hc hdelay hstep hperiod => ?_⟩
  · rw [ticks_fs, frameAdvance_iterate hdelay s.cfg hn]
  · have henters := frameAdvance_iterate_counter hdelay hne s.cfg
    rw [← ticks_fs] at henters
    obtain ⟨-, hstep, hcounter, -⟩ := henters.fields
    refine ⟨?_, ?_, ?_⟩
    · rw [hstep, nextFrameStep_toNat]
    · rw [hstep, hcounter]
      exact framePeriod_eq s.cfg s.fs.mode _ (Nat.lt_succ_of_le (nextFrameStep_le _))
    · rw [hstep, hcounter]
      exact henters
  · have hcounter : s.fs.counter = framePeriod s.cfg s.fs.mode 0 :=
      Option.some.inj (hperiod.symm.trans (framePeriod_eq s.cfg s.fs.mode 0 (by decide)))
    have hstart : s.fs.Enters s.cfg 0 s.fs := by rw [FrameSequencer.Enters, ← hcounter, ← hstep]
    have hturn := frameAdvance_iterate_periods hc hdelay hstart (m := 6) le_rfl
    rw [List.take_of_length_le (by simp), ← ticks_fs] at hturn
    exact hstart.frame hturn

end Sys2Proof.Spec
end

section
/-! PROOF. The write of $4015 (R287, R131, R230, R231): its effect in one equation, the delay that a start draws, and the
statement StatusWriteEnablesChannelsAndStartsOrStopsTheDmc. -/

namespace Sys2Proof.Machine

/-- R287, R230, R231: the DMC that a write of $4015 leaves; `n` is the draw `dmc_start_delay`. The interrupt flag is
cleared whichever way bit 4 goes. -/
def dmcStatusWritten (d : Byte) (n : BitVec 2) (x : Dmc) : Dmc :=
  if d.getLsbD 4 then dmcStart n { x with irqPending := false } else dmcStop { x with irqPending := false }

theorem dmcStatusWritten_of_stop {d : Byte} (h : d.getLsbD 4 = false) (n : BitVec 2) (x : Dmc) :
    dmcStatusWritten d n x = { x with irqPending := false, lengthCounter := 0, triggeredStop := true } :=
  if_neg (ne_true_of_eq_false h)

theorem dmcStatusWritten_of_playing {d : Byte} (h : d.getLsbD 4 = true) {x : Dmc} (hplaying : x.lengthCounter ≠ 0)
    (n : BitVec 2) : dmcStatusWritten d n x = { x with irqPending := false } :=
  (if_pos h).trans (dmcStart_playing n _ hplaying)

theorem dmcStatusWritten_of_start {d : Byte} (h : d.getLsbD 4 = true) {x : Dmc} (hidle : x.lengthCounter = 0)
    (n : BitVec 2) : dmcStatusWritten d n x = { x with
      irqPending := false
      readAddress := dmcStartAddress x.addressLatch
      lengthCounter := dmcStartLength x.lengthLatch
      triggered := true
      dmaDelayCounter := if x.dmaBufferValid = false ∧ x.dmaOutstanding = false then n else x.dmaDelayCounter } :=
  (if_pos h).trans (dmcStart_idle n _ hidle)

@[simp] theorem dmcStatusWritten_irqPending (d : Byte) (n : BitVec 2) (x : Dmc) :
    (dmcStatusWritten d n x).irqPending = false := by
  cases h : d.getLsbD 4 with
  | false => rw [dmcStatusWritten_of_stop h]
  | true =>
    by_cases hidle : x.lengthCounter = 0
    · rw [dmcStatusWritten_of_start h hidle]
    · rw [dmcStatusWritten_of_playing h hidle]

/-- R287: all that a write of $4015 does. The DMC's flag being clear, the line is the frame flag. -/
theorem exec_wr4015 (d : Byte) (s : State) : exec (.wr4015 d) s = .next { writeEnables d s with
    dmc := dmcStatusWritten d (dmcDelayDraw s) s.dmc
    irq := s.fs.irqPending } := by
  have hline : (s.fs.irqPending || (dmcStatusWritten d (dmcDelayDraw s) s.dmc).irqPending) = s.fs.irqPending := by
    rw [dmcStatusWritten_irqPending, Bool.or_false]
  rw [← hline]
  rfl

/-! ## The draw of the start delay (R230) -/

theorem dmcDelayDraw_eq (s : State) : dmcDelayDraw s = 2 ∨ dmcDelayDraw s = 3 := by
  unfold dmcDelayDraw
  split
  · exact .inl rfl
  · exact .inr rfl

theorem dmcDelayDraw_of_short {s : State} (h : s.draws.dmcDelay = some .short) : dmcDelayDraw s = 2 := by
  rw [dmcDelayDraw, h]
  rfl

theorem dmcDelayDraw_of_long {s : State} (h : s.draws.dmcDelay = some .long) : dmcDelayDraw s = 3 := by
  rw [dmcDelayDraw, h]
  rfl

end Sys2Proof.Machine

namespace Sys2Proof.Spec

open Sys2Proof.Machine

theorem enableWritten_lengthSetEnable (v : Bool) (l : LengthCounter) : EnableWritten v l (lengthSetEnable v l) :=
  ⟨fun hon => if_pos hon, fun hoff => if_neg (ne_true_of_eq_false hoff)⟩

/-- Settles O18: the write's own equation; the DMC by bit 4 and whether it plays, its delay by whether a byte is buffered
or on its way. -/
theorem statusWriteEnablesChannelsAndStartsOrStopsTheDmc :
    Obligations.StatusWriteEnablesChannelsAndStartsOrStopsTheDmc := by
  intro d s
  simp only [bit_eq_getLsbD]
  refine ⟨_, exec_wr4015 d s, rfl, enableWritten_lengthSetEnable _ _, enableWritten_lengthSetEnable _ _,
    enableWritten_lengthSetEnable _ _, enableWritten_lengthSetEnable _ _, fun hstop => ?_, fun hstart hplaying => ?_,
    fun hstart hidle => ?_⟩
  · exact dmcStatusWritten_of_stop hstop _ _
  · exact dmcStatusWritten_of_playing hstart hplaying _
  · rw [dmcStatusWritten_of_start hstart hidle]
    refine ⟨dmcStartAddress_toNat _, dmcStartLength_toNat _, fun hbuffer hout => ?_, fun hbusy => ?_, rfl⟩
    · rw [if_pos ⟨hbuffer, hout⟩]
      refine ⟨?_, fun hshort => ?_, fun hlong => ?_⟩
      · exact (dmcDelayDraw_eq s).imp (congrArg BitVec.toNat) (congrArg BitVec.toNat)
      · exact congrArg BitVec.toNat (dmcDelayDraw_of_short hshort)
      · exact congrArg BitVec.toNat (dmcDelayDraw_of_long hlong)
    · refine if_neg ?_
      rintro ⟨hbuffer, hout⟩
      simp [hbuffer, hout] at hbusy

end Sys2Proof.Spec
end

section
/-! PROOF. The bytes that a read returns (R285, R288, R82, R110) and the writes that reach no register (R289): the
statements StatusReadReturnsFlagsAndClearsFrameIrq, OpenReadsReturnTheOpenBusDraw and
WritesOfUnusedRegistersChangeNothing. -/

namespace Sys2Proof.Machine

theorem openBusDraw_of_supplied {s : State} {b : Byte} (h : s.draws.openBus = some b) : openBusDraw s = b := by
  rw [openBusDraw, h]
  rfl

/-- The four high bits of the status byte: the two flags, the open bus, and the activity of the DMC. -/
theorem statusByte_highBits (o : Byte) (s : State) :
    (statusByte o s).getLsbD 4 = dmcActive s.dmc ∧ (statusByte o s).getLsbD 5 = o.getLsbD 5 ∧
    (statusByte o s).getLsbD 6 = s.fs.irqPending ∧ (statusByte o s).getLsbD 7 = s.dmc.irqPending := by
  simp only [statusByte, BitVec.getLsbD_append]
  simp

theorem lengthActive_eq_decide (l : LengthCounter) : lengthActive l = decide (l.counter ≠ 0) := by
  rw [lengthActive, bne, beq_eq_decide, decide_not]

theorem dmcActive_eq_decide (d : Dmc) : dmcActive d = decide (d.lengthCounter ≠ 0) := by
  rw [dmcActive, bne, beq_eq_decide, decide_not]

end Sys2Proof.Machine

namespace Sys2Proof.Spec

open Sys2Proof.Machine

/-- Settles O21: the returned byte is the status byte of the state before the clear, read bit by bit. -/
theorem statusReadReturnsFlagsAndClearsFrameIrq : Obligations.StatusReadReturnsFlagsAndClearsFrameIrq := by
  intro s
  obtain ⟨hdmc, hbus, hframeIrq, hdmcIrq⟩ := statusByte_highBits (openBusDraw s) s
  obtain ⟨hp1, hp2, htri, hnoise⟩ := statusByte_lengthBits (openBusDraw s) s
  refine ⟨_, statusByte (openBusDraw s) s, exec_rd4015 s, rfl, ?_⟩
  simp only [bit_eq_getLsbD, ← lengthActive_eq_decide, ← dmcActive_eq_decide]
  exact ⟨hdmcIrq, hframeIrq, hbus, hdmc, hnoise, htri, hp2, hp1, fun _ => openBusDraw_of_supplied⟩

/-- Settles O23: every such read is an open-bus read. -/
theorem openReadsReturnTheOpenBusDraw : Obligations.OpenReadsReturnTheOpenBusDraw := fun s _ hread =>
  ⟨exec_openRead s hread, fun _ => openBusDraw_of_supplied⟩

/-- Settles O20: no register is there to be written. -/
theorem writesOfUnusedRegistersChangeNothing : Obligations.WritesOfUnusedRegistersChangeNothing :=
  fun _ _ => ⟨rfl, rfl⟩

end Sys2Proof.Spec
end

section
/-! PROOF. Which events stop the machine (R306, R238, R300): every event but a delivery completes in every state, and a
delivery does where it is expected. The statements OnlyUnexpectedDeliveriesFault and DutifulEventsAlwaysComplete. -/

namespace Sys2Proof.Machine

/-- R300: an event that is no delivery has a next state, whatever the state. -/
theorem exec_completes {i : Instr} (h : ∀ b, i ≠ .dmaDeliver b) (s : State) : ∃ t, exec i s = .next t := by
  cases i with
  | dmaDeliver b => exact absurd rfl (h b)
  | _ => exact ⟨_, rfl⟩

theorem exec_dmaDeliver_of_unrequested {s : State} (h : s.dmc.dmaOutstanding = false) (b : Byte) :
    exec (.dmaDeliver b) s = .fault .dmaUnrequested := if_pos h

theorem exec_dmaDeliver_of_idle {s : State} (hout : s.dmc.dmaOutstanding = true) (hidle : s.dmc.lengthCounter = 0)
    (b : Byte) : exec (.dmaDeliver b) s = .fault .dmaWhileIdle :=
  (if_neg (by simp [hout])).trans (if_pos hidle)

end Sys2Proof.Machine

namespace Sys2Proof.Spec

open Sys2Proof.Machine

/-- Settles O25: a delivery by its three cases, and any other event completes. -/
theorem onlyUnexpectedDeliveriesFault : Obligations.OnlyUnexpectedDeliveriesFault := by
  intro i s
  by_cases hdeliver : ∃ b, i = .dmaDeliver b
  · obtain ⟨b, rfl⟩ := hdeliver
    cases hout : s.dmc.dmaOutstanding with
    | false => simp [exec_dmaDeliver_of_unrequested hout]
    | true =>
      by_cases hidle : s.dmc.lengthCounter = 0
      · simp [exec_dmaDeliver_of_idle hout hidle, hidle]
      · simpa [exec_dmaDeliver_of_expected ⟨hout, hidle⟩] using hidle
  · obtain ⟨t, ht⟩ := exec_completes (not_exists.mp hdeliver) s
    simp [ht, hdeliver]

/-- Settles O55: a legal word is an undecoded access, or an event that completes, a delivery because it is expected. -/
theorem dutifulEventsAlwaysComplete : Obligations.DutifulEventsAlwaysComplete := by
  rintro s ⟨e, rest, hin, hlegal, hexpected⟩
  cases hd : decode e.word with
  | malformed why => exact absurd hd (hlegal why)
  | foreign wr a d => exact ⟨_, step_of_foreign hin hd⟩
  | instr i =>
    rw [step_of_instr hin hd]
    by_cases hdeliver : ∃ b, i = .dmaDeliver b
    · obtain ⟨b, rfl⟩ := hdeliver
      exact ⟨_, exec_dmaDeliver_of_expected (s := s.take e rest) (hexpected b hd) b⟩
    · exact exec_completes (not_exists.mp hdeliver) _

end Sys2Proof.Spec
end

section
/-! PROOF. The frame sequencer and the fields that no tick writes (R277, R252, R254, R259): what a tick makes of the
sequencer in each of its three cases, when it sets the interrupt flag, and the statement TickAdvancesTheFrameSequencer. -/

namespace Sys2Proof.Machine

section
variable {f : FrameSequencer}

/-- R252: the delay counts down, and writes nothing else. -/
theorem frameDelayStep_eq (f : FrameSequencer) : frameDelayStep f =
    { f with delayCounter := if f.delay then f.delayCounter - 1 else f.delayCounter } := by
  unfold frameDelayStep
  split_ifs <;> rfl

theorem frameExpires_iff : frameExpires f = true ↔ f.delay = true ∧ f.delayCounter - 1 = 0 := by
  rw [frameExpires, Bool.and_eq_true, beq_iff_eq]

/-- R259: the sequence starts again, with the delay run out. -/
theorem frameNext_of_expires (h : frameExpires f = true) (c : Config) : frameNext c f =
    { f with delay := false, delayCounter := 0, step := 0, counter := framePeriod c f.mode 0 } := by
  obtain ⟨hpending, hzero⟩ := frameExpires_iff.mp h
  rw [frameNext, if_pos h, frameDelayStep_eq, if_pos hpending, frameRestart, hzero]

theorem frameNext_of_not_expires (h : ¬frameExpires f = true) (c : Config) :
    frameNext c f = frameCount c (frameDelayStep f) := if_neg h

/-- R252: the current step fires, and the next one begins. -/
theorem frameNext_of_fires (h : frameFires f = true) (c : Config) : frameNext c f =
    { frameDelayStep f with
      step := nextFrameStep f.step
      counter := framePeriod c f.mode (nextFrameStep f.step) } := by
  rw [frameFires, Bool.and_eq_true, Bool.not_eq_true', beq_iff_eq] at h
  obtain ⟨hexp, hone⟩ := h
  rw [frameNext_of_not_expires (ne_true_of_eq_false hexp), frameDelayStep_eq, frameCount, if_pos hone]

/-- R252: neither a restart nor a step. -/
theorem frameNext_of_counting (hexp : ¬frameExpires f = true) (hfire : ¬frameFires f = true) (c : Config) :
    frameNext c f = { frameDelayStep f with counter := f.counter - 1 } := by
  have hone : f.counter ≠ 1 := fun hone => hfire (by simp [frameFires, hexp, hone])
  rw [frameNext_of_not_expires hexp, frameDelayStep_eq, frameCount, if_neg hone]

/-- R258: only a restart ends a pending reset; until then its delay counts down. -/
theorem frameNext_delay_of_not_expires (h : ¬frameExpires f = true) (c : Config) :
    (frameNext c f).delay = f.delay ∧
    (frameNext c f).delayCounter = if f.delay then f.delayCounter - 1 else f.delayCounter := by
  rw [frameNext_of_not_expires h, frameDelayStep_eq, frameCount]
  split_ifs <;> exact ⟨rfl, rfl⟩

/-- No tick writes the mode or the inhibit (R252). -/
theorem frameNext_mode_irqInhibit (c : Config) (f : FrameSequencer) :
    (frameNext c f).mode = f.mode ∧ (frameNext c f).irqInhibit = f.irqInhibit := by
  by_cases hexp : frameExpires f = true
  · rw [frameNext_of_expires hexp]
    exact ⟨rfl, rfl⟩
  · rw [frameNext_of_not_expires hexp, frameDelayStep_eq, frameCount]
    split_ifs <;> exact ⟨rfl, rfl⟩

/-- R254, R259: only a step that fires sets the flag, in the 4-step mode, at a step of `FS_IRQ_STEPS`, uninhibited. -/
theorem frameEvents_irq (c : Config) (f : FrameSequencer) : (frameEvents c f).irq = true ↔
    frameFires f = true ∧ f.mode = false ∧ f.irqInhibit = false ∧ stepIn c.irqSteps f.step = true := by
  unfold frameEvents
  split_ifs with hexp hfire
  · simp [frameFires, hexp]
  · simp [stepEvents, hfire, and_comm, and_left_comm]
  · simp [hfire]

end

/-! ## The tick -/

theorem tick_fs_irqPending (s : State) :
    (tick s).fs.irqPending = (s.fs.irqPending || (frameEvents s.cfg s.fs).irq) := by
  rw [tick_fs, frameAdvance]

theorem tick_irq (s : State) : (tick s).irq = if (frameEvents s.cfg s.fs).irq then true else s.irq := by
  rw [tick_eq, frameTick_irq]

section
variable (s : State)

theorem tick_p1_duty : (tick s).p1.duty = s.p1.duty := by rw [tick_p1, pulseAdvance_frame, frameTick_p1]; rfl
theorem tick_p2_duty : (tick s).p2.duty = s.p2.duty := by rw [tick_p2, pulseAdvance_frame, frameTick_p2]; rfl
theorem tick_tri_period : (tick s).tri.period = s.tri.period := by
  rw [tick_eq, triAdvance_frame, frameTick_tri, triFrame_eq]
theorem tick_tri_linearLength : (tick s).tri.linearLength = s.tri.linearLength := by
  rw [tick_eq, triAdvance_frame, frameTick_tri, triFrame_eq]
theorem tick_noise_period : (tick s).noise.period = s.noise.period := by
  rw [tick_eq, noiseAdvance_frame, frameTick_noise]; rfl
theorem tick_noise_shortMode : (tick s).noise.shortMode = s.noise.shortMode := by
  rw [tick_eq, noiseAdvance_frame, frameTick_noise]; rfl

/-- R277: no tick writes the parameters, the run, or the value that was last read. -/
theorem tick_frame : tick s = { s with
    p1 := (tick s).p1
    p2 := (tick s).p2
    tri := (tick s).tri
    noise := (tick s).noise
    dmc := (tick s).dmc
    fs := (tick s).fs
    out := (tick s).out
    irq := (tick s).irq
    dmaRequest := (tick s).dmaRequest
    dmaAddress := (tick s).dmaAddress } := by
  rw [tick_eq]

end

end Sys2Proof.Machine

namespace Sys2Proof.Spec

open Sys2Proof.Machine

theorem frameIrqNext_iff (s : State) : FrameIrqNext s ↔ (frameEvents s.cfg s.fs).irq = true := by
  rw [FrameIrqNext, InSteps, ← stepIn_iff, stepNext_iff, frameEvents_irq]

theorem tick_fs_irqPending_of_frameIrqNext {s : State} (h : FrameIrqNext s) : (tick s).fs.irqPending = true := by
  rw [tick_fs_irqPending, (frameIrqNext_iff s).mp h, Bool.or_true]

/-- Settles O28: the sequencer by its three cases, its flag by the interrupt of the step that fires, and the rest because
no unit's clock writes it. -/
theorem tickAdvancesTheFrameSequencer : Obligations.TickAdvancesTheFrameSequencer := by
  intro s
  obtain ⟨hmode, hinhibit⟩ := frameNext_mode_irqInhibit s.cfg s.fs
  refine ⟨tick s, rfl, tick_frame s, fun hrestart => ?_, fun hno => ?_, fun hstep => ?_, fun hno hstay => ?_, ?_, ?_,
    fun hirq => ⟨tick_fs_irqPending_of_frameIrqNext hirq, ?_⟩, fun hquiet => ?_, tick_p1_duty s, tick_p2_duty s,
    tick_tri_period s, tick_tri_linearLength s, tick_noise_period s, tick_noise_shortMode s, ?_⟩
  · rw [tick_fs, frameAdvance, frameNext_of_expires ((restartNext_iff s).mp hrestart)]
    exact ⟨rfl, rfl, rfl, framePeriod_eq s.cfg s.fs.mode 0 (by decide)⟩
  · rw [tick_fs]
    exact frameNext_delay_of_not_expires (mt (restartNext_iff s).mpr hno) s.cfg
  · rw [tick_fs, frameAdvance, frameNext_of_fires ((stepNext_iff s).mp hstep)]
    exact ⟨nextFrameStep_toNat _, framePeriod_eq s.cfg s.fs.mode _ (Nat.lt_succ_of_le (nextFrameStep_le _))⟩
  · rw [tick_fs, frameAdvance, frameNext_of_counting (mt (restartNext_iff s).mpr hno) (mt (stepNext_iff s).mpr hstay),
      frameDelayStep_eq]
    exact ⟨rfl, rfl⟩
  · rw [tick_fs]
    exact hmode
  · rw [tick_fs]
    exact hinhibit
  · rw [tick_irq, if_pos ((frameIrqNext_iff s).mp hirq)]
  · have hno : (frameEvents s.cfg s.fs).irq = false := eq_false_of_ne_true (mt (frameIrqNext_iff s).mpr hquiet)
    rw [tick_fs_irqPending, tick_irq, hno, Bool.or_false]
    exact ⟨rfl, rfl⟩
  · rw [tick_dmc, dmcAdvance_eq]

end Sys2Proof.Spec
end

section
/-! PROOF. The two interrupt flags over all events (R303, R304): what each event leaves of each of them, and the
statements InterruptFlagsChangeOnlyAsListed and InterruptEnablesMaskTheFlags. -/

namespace Sys2Proof.Machine

/-- R304: the frame interrupt flag after an event. -/
def frameFlagAfter (s : State) : Instr → Bool
  | .tick => s.fs.irqPending || (frameEvents s.cfg s.fs).irq
  | .wr4017 d => s.fs.irqPending && !frameInhibitField d
  | .rd4015 | .power | .reset => false
  | _ => s.fs.irqPending

/-- R304: the DMC interrupt flag after an event that completes. -/
def dmcFlagAfter (s : State) : Instr → Bool
  | .dmaDeliver _ => if s.dmc.InterruptsNext then true else s.dmc.irqPending
  | .wr4010 d => dmcIrqField d && s.dmc.irqPending
  | .wr4015 _ | .power | .reset => false
  | _ => s.dmc.irqPending

theorem exec_wr4010_irqPending {d : Byte} {s t : State} (h : exec (.wr4010 d) s = .next t) :
    t.fs.irqPending = s.fs.irqPending ∧ t.dmc.irqPending = (dmcIrqField d && s.dmc.irqPending) := by
  cases hirq : dmcIrqField d with
  | true =>
    cases (exec_wr4010_of_enable hirq s).symm.trans h
    exact ⟨rfl, rfl⟩
  | false =>
    cases (exec_wr4010_of_disable hirq s).symm.trans h
    exact ⟨rfl, rfl⟩

theorem exec_fs_irqPending {i : Instr} {s t : State} (h : exec i s = .next t) :
    t.fs.irqPending = frameFlagAfter s i := by
  cases i with
  | tick => rw [eq_tick_of_exec h, tick_fs_irqPending]; rfl
  | wr4010 d => exact (exec_wr4010_irqPending h).1
  | wr4015 d => cases (exec_wr4015 d s).symm.trans h; rfl
  | wr4017 d => cases (exec_wr4017 d s).symm.trans h; rfl
  | dmaDeliver b =>
    obtain ⟨-, rfl⟩ := execDmaDeliver_next h
    rw [dmcDeliver_eq]
    rfl
  | _ => cases h; rfl

theorem exec_dmc_irqPending {i : Instr} {s t : State} (h : exec i s = .next t) :
    t.dmc.irqPending = dmcFlagAfter s i := by
  cases i with
  | tick => rw [eq_tick_of_exec h, tick_dmc, dmcAdvance_irqPending]; rfl
  | wr4010 d => exact (exec_wr4010_irqPending h).2
  | wr4015 d => cases (exec_wr4015 d s).symm.trans h; exact dmcStatusWritten_irqPending _ _ _
  | wr4017 d => cases (exec_wr4017 d s).symm.trans h; rfl
  | dmaDeliver b =>
    obtain ⟨-, rfl⟩ := execDmaDeliver_next h
    rw [dmcDeliver_eq]
    rfl
  | _ => cases h; rfl

end Sys2Proof.Machine

namespace Sys2Proof.Spec

open Sys2Proof.Machine

/-! ## What raises and what clears each flag -/

section
variable {i : Instr} {s : State}

theorem frameFlag_raised (hclear : s.fs.irqPending = false) (h : frameFlagAfter s i = true) :
    i = .tick ∧ FrameIrqNext s := by
  cases i with
  | tick => exact ⟨rfl, (frameIrqNext_iff s).mpr (by simpa [frameFlagAfter, hclear] using h)⟩
  | _ => simp [frameFlagAfter, hclear] at h

theorem frameFlag_cleared (hset : s.fs.irqPending = true) (h : frameFlagAfter s i = false) :
    i = .rd4015 ∨ (∃ d, i = .wr4017 d ∧ bit d 6 = true) ∨ i = .power ∨ i = .reset := by
  cases i with
  | wr4017 d => exact .inr (.inl ⟨d, rfl, by simpa [frameFlagAfter, hset, frameInhibitField_eq_bit] using h⟩)
  | rd4015 => exact .inl rfl
  | power => exact .inr (.inr (.inl rfl))
  | reset => exact .inr (.inr (.inr rfl))
  | _ => simp [frameFlagAfter, hset] at h

theorem dmcFlag_raised (hclear : s.dmc.irqPending = false) (h : dmcFlagAfter s i = true) :
    (∃ b, i = .dmaDeliver b) ∧ s.dmc.InterruptsNext := by
  cases i with
  | dmaDeliver b =>
    refine ⟨⟨b, rfl⟩, not_not.mp fun hquiet => ?_⟩
    exact Bool.false_ne_true (hclear.symm.trans ((if_neg hquiet).symm.trans h))
  | _ => simp [dmcFlagAfter, hclear] at h

theorem dmcFlag_cleared (hset : s.dmc.irqPending = true) (h : dmcFlagAfter s i = false) :
    (∃ d, i = .wr4015 d) ∨ (∃ d, i = .wr4010 d ∧ bit d 7 = false) ∨ i = .power ∨ i = .reset := by
  cases i with
  | wr4015 d => exact .inl ⟨d, rfl⟩
  | wr4010 d => exact .inr (.inl ⟨d, rfl, by simpa [dmcFlagAfter, hset, dmcIrqField_eq_bit] using h⟩)
  | power => exact .inr (.inr (.inl rfl))
  | reset => exact .inr (.inr (.inr rfl))
  | _ => simp [dmcFlagAfter, hset] at h

end

/-- Settles O51: each flag's own list. -/
theorem interruptFlagsChangeOnlyAsListed : Obligations.InterruptFlagsChangeOnlyAsListed := by
  intro i s t h
  rw [exec_fs_irqPending h, exec_dmc_irqPending h]
  exact ⟨frameFlag_raised, frameFlag_cleared, dmcFlag_raised, dmcFlag_cleared⟩

/-- Settles O52: whatever raises a flag finds it enabled, and an enabled flag is raised by its condition. -/
theorem interruptEnablesMaskTheFlags : Obligations.InterruptEnablesMaskTheFlags := by
  refine ⟨fun i s t h => ⟨fun hinhibit hset => ?_, fun hdisabled hset => ?_⟩,
    fun s t h hinhibit hstep hmode hirqStep => ?_, fun b s t h henable hlast hloop => ?_⟩
  · by_contra hclear
    rw [exec_fs_irqPending h] at hset
    obtain ⟨-, -, -, hallowed, -⟩ := frameFlag_raised (eq_false_of_ne_true hclear) hset
    exact Bool.false_ne_true (hallowed.symm.trans hinhibit)
  · by_contra hclear
    rw [exec_dmc_irqPending h] at hset
    obtain ⟨-, -, -, henabled⟩ := dmcFlag_raised (eq_false_of_ne_true hclear) hset
    exact Bool.false_ne_true (hdisabled.symm.trans henabled)
  · obtain rfl := eq_tick_of_exec h
    exact tick_fs_irqPending_of_frameIrqNext ⟨hstep, hmode, hinhibit, hirqStep⟩
  · rw [exec_dmc_irqPending h]
    exact if_pos ⟨hlast, hloop, henable⟩

end Sys2Proof.Spec
end

section
/-! PROOF. The DMA responder (R10, R315, R316): the address of an outstanding request over every event, the delivery of
the responder's word, and the statement ResponderDeliversTheByteAtTheRequestedAddress. -/

namespace Sys2Proof.Machine

/-- R234: no clock asks for a byte while one is outstanding. -/
theorem Dmc.asks_of_outstanding {d : Dmc} (h : d.dmaOutstanding = true) : d.asks = false := by
  simp [asks, delayAsks, dmcWantsByte, wrapAsks, h]

/-- R316: whatever event comes, the address of an outstanding request stays, or the request is over. -/
theorem exec_dmaAddress_of_outstanding {i : Instr} {s t : State} (h : exec i s = .next t)
    (hout : s.dmc.dmaOutstanding = true) : t.dmaAddress = s.dmaAddress ∨ t.dmc.dmaOutstanding = false := by
  cases i with
  | tick => rw [eq_tick_of_exec h, tick_dmaAddress, Dmc.asks_of_outstanding hout]; exact .inl rfl
  | dmaDeliver b =>
    obtain ⟨-, rfl⟩ := execDmaDeliver_next h
    rw [dmcDeliver_eq]
    exact .inr rfl
  | power => cases h; exact .inr rfl
  | reset => cases h; exact .inr rfl
  | wr4010 d => cases h; split_ifs <;> exact .inl rfl
  | wr4017 d => cases (exec_wr4017 d s).symm.trans h; exact .inl rfl
  | _ => cases h; exact .inl rfl

/-- R316, R78: the responder answers only an outstanding request, with a delivery of the byte at its address. -/
theorem responderWord_eq_some {mem : BusAddr → Byte} {s : State} {w : EventWord} (h : responderWord mem s = some w) :
    s.dmc.dmaOutstanding = true ∧ decode w = .instr (.dmaDeliver (mem s.dmaAddress)) := by
  unfold responderWord at h
  split_ifs at h with hout
  cases h
  exact ⟨hout, decode_encode (.dmaDeliver _) rfl⟩

end Sys2Proof.Machine

namespace Sys2Proof.Spec

open Sys2Proof.Machine

/-- Settles O59: the address over the events, and the delivery that the responder's word decodes to. -/
theorem responderDeliversTheByteAtTheRequestedAddress : Obligations.ResponderDeliversTheByteAtTheRequestedAddress := by
  refine ⟨fun i s t h hbefore hafter => ?_, fun mem s e rest hin hword hplaying => ?_⟩
  · exact (exec_dmaAddress_of_outstanding h hbefore).resolve_right (ne_false_of_eq_true hafter)
  · obtain ⟨hout, hd⟩ := responderWord_eq_some hword
    refine ⟨_, (step_of_instr hin hd).trans (exec_dmaDeliver_of_expected (s := s.take e rest) ⟨hout, hplaying⟩ _), ?_⟩
    rw [dmcDeliver_eq]
    exact ⟨rfl, rfl, rfl⟩

end Sys2Proof.Spec
end

section
/-! PROOF. The length write race (R336, R132, R133): a write in a half-frame cycle is buffered, so the tick's own clock
comes before it; the statement LengthWritesInAHalfFrameCycleLandAfterTheClock. -/

namespace Sys2Proof.Machine

/-- R336: a load written in a half-frame cycle is what the counter holds after the tick. -/
theorem lengthTick_counter_of_bufferedLoad {l : LengthCounter} (h : l.enable = true) (c : Config) (ev : FrameEvents)
    (i : BitVec 5) : (lengthTick c ev (lengthSetCounter c true i l)).counter = lengthEntry c i := by
  have hset : lengthSetCounter c true i l = { l with delayCounter := true, counterIndex := i } := if_pos h
  rw [hset, lengthTick_counter_of_buffered rfl]

/-- R336: a halt written in a half-frame cycle is what the channel has after the tick. -/
theorem lengthTick_halt_of_bufferedHalt (c : Config) (ev : FrameEvents) (v : Bool) (l : LengthCounter) :
    (lengthTick c ev (lengthSetHalt true v l)).halt = v := by
  rw [lengthTick_eq]
  rfl

theorem lengthMain_of_halted {l : LengthCounter} (h : l.halt = true) : lengthMain l = l :=
  lengthMain_of_not_counting (by simp [h])

/-- R336: the clock of that tick still sees the old halt. -/
theorem lengthTick_counter_of_bufferedHalt {l : LengthCounter} (hload : l.delayCounter = false) (hhalt : l.halt = true)
    (c : Config) (ev : FrameEvents) (v : Bool) : (lengthTick c ev (lengthSetHalt true v l)).counter = l.counter := by
  rw [lengthTick_counter_of_unbuffered (l := lengthSetHalt true v l) hload,
    lengthMain_of_halted (l := lengthSetHalt true v l) hhalt, ite_self]
  rfl

end Sys2Proof.Machine

namespace Sys2Proof.Spec

open Sys2Proof.Machine

/-- R336 for a load: what a tick leaves of a counter to which `d` was written in a half-frame cycle. -/
theorem lengthTick_load_race {l l' : LengthCounter} {c : Config} {ev : FrameEvents} {d : Byte}
    (h : l' = lengthTick c ev (lengthSetCounter c true (lengthIndexField d) l)) (hen : l.enable = true) :
    c.lengthTable[bits d 7 3]? = some l'.counter := by
  rw [h, lengthTick_counter_of_bufferedLoad hen, ← lengthIndexField_eq_bits, lengthEntry_eq]

/-- R336 for a halt: what a tick leaves of a counter whose halt was written in a half-frame cycle. -/
theorem lengthTick_halt_race {l l' : LengthCounter} {c : Config} {ev : FrameEvents} {v : Bool}
    (h : l' = lengthTick c ev (lengthSetHalt true v l)) (hload : l.delayCounter = false) :
    l'.halt = v ∧ (l.halt = true → l'.counter = l.counter) := by
  rw [h]
  exact ⟨lengthTick_halt_of_bufferedHalt c ev v l, fun hhalt => lengthTick_counter_of_bufferedHalt hload hhalt c ev v⟩

/-- Settles O37: in a half-frame cycle each write is a buffered one of its own channel, and the tick's clock of that
channel comes before the buffered write. -/
theorem lengthWritesInAHalfFrameCycleLandAfterTheClock : Obligations.LengthWritesInAHalfFrameCycleLandAfterTheClock := by
  intro s d hhalf
  rw [halfClockNext_iff] at hhalf
  simp only [bit_eq_getLsbD]
  refine ⟨fun t u ht hu => ?_, fun t u ht hu => ?_, fun t u ht hu => ?_, fun t u ht hu => ?_, fun t u ht hu => ?_,
    fun t u ht hu => ?_, fun t u ht hu => ?_, fun t u ht hu => ?_⟩
  all_goals
    obtain rfl := eq_tick_of_exec hu
    cases ht
    rw [hhalf]
  · exact lengthTick_load_race (tick_p1_len _)
  · exact lengthTick_load_race (tick_p2_len _)
  · exact lengthTick_load_race (tick_tri_len _)
  · exact lengthTick_load_race (tick_noise_len _)
  · exact lengthTick_halt_race (tick_p1_len _)
  · exact lengthTick_halt_race (tick_p2_len _)
  · exact lengthTick_halt_race (tick_tri_len _)
  · exact lengthTick_halt_race (tick_noise_len _)

end Sys2Proof.Spec
end

section
/-! PROOF. Power-on and reset (R330 to R333, D28): the state they leave, its invariant, and the silence that only ticks
keep. The statements PowerAndResetGiveTheResetState, NothingInFlightSurvivesAReset, ResetStateHasTheInvariant and
AfterResetEveryChannelIsSilentAndTheTriangleHolds15. -/

namespace Sys2Proof.Machine

/-- R331: power-on and reset are one operation. -/
theorem exec_power_or_reset {i : Instr} (h : i = .reset ∨ i = .power) (s : State) :
    exec i s = .next (applyReset s) := by
  obtain rfl | rfl := h
  · rfl
  · rfl

theorem resetWith_inv {c : Config} (hc : c.wf) : (State.resetWith c).Inv :=
  (State.inv_iff _).mpr
    ⟨{ cfg := hc
       p1 := resetPulse_inv
       p2 := resetPulse_inv
       tri := resetTriangle_inv
       noise := resetNoise_inv
       dmc := resetDmc_inv
       fs := resetFrame_inv hc }, rfl⟩

theorem defaultConfigFor_wf (r : Region) : (defaultConfigFor r).wf := by
  cases r with
  | ntsc => decide
  | pal => decide

/-! ## Silence after a reset (R333) -/

/-- A length counter that no tick moves from 0. -/
structure LengthCounter.Idle (l : LengthCounter) : Prop where
  counter : l.counter = 0
  unbuffered : l.delayCounter = false

theorem LengthCounter.Idle.halfFrame {l : LengthCounter} (h : l.Idle) (half : Bool) :
    (if half then lengthMain l else l) = l := by
  rw [lengthMain_of_not_counting (by simp [h.counter]), ite_self]

theorem LengthCounter.Idle.tick {l : LengthCounter} (h : l.Idle) (c : Config) (ev : FrameEvents) :
    (lengthTick c ev l).Idle := by
  rw [lengthTick, h.halfFrame, lengthApplyPending_eq]
  exact ⟨by simp [h.counter, h.unbuffered], rfl⟩

/-- R233: a DMC at level 0 with nothing to play and nothing buffered. -/
structure Dmc.Idle (d : Dmc) : Prop where
  level : d.dacLatch = 0
  silent : d.sampleValid = false
  empty : d.dmaBufferValid = false

/-- The clock steps no level without a sample, and takes no sample from an empty buffer (R232). -/
theorem Dmc.Idle.advance {d : Dmc} (h : d.Idle) (c : Config) : (dmcAdvance c d).dmc.Idle := by
  rw [dmcAdvance_eq]
  exact ⟨by simp [dmcShift, h.level, h.silent], by simp [h.silent, h.empty], by simp [h.empty]⟩

/-- What ticks alone keep after a reset: every length counter at 0, the triangle at its first step, the DMC idle. -/
structure State.Idle (s : State) : Prop where
  p1 : s.p1.len.Idle
  p2 : s.p2.len.Idle
  tri : s.tri.len.Idle
  noise : s.noise.len.Idle
  triStep : s.tri.stepCounter = 0
  dmc : s.dmc.Idle

theorem resetWith_idle (c : Config) : (State.resetWith c).Idle where
  p1 := ⟨rfl, rfl⟩
  p2 := ⟨rfl, rfl⟩
  tri := ⟨rfl, rfl⟩
  noise := ⟨rfl, rfl⟩
  triStep := rfl
  dmc := ⟨rfl, rfl, rfl⟩

theorem State.Idle.tick {s : State} (h : s.Idle) : (tick s).Idle where
  p1 := by rw [tick_p1_len]; exact h.p1.tick _ _
  p2 := by rw [tick_p2_len]; exact h.p2.tick _ _
  tri := by rw [tick_tri_len]; exact h.tri.tick _ _
  noise := by rw [tick_noise_len]; exact h.noise.tick _ _
  triStep := by
    have hexhausted : (frameTick s).tri.len.counter = 0 := by rw [frameTick_tri_len, h.tri.halfFrame, h.tri.counter]
    rw [(tick_tri_of_exhausted hexhausted).1, h.triStep]
  dmc := by rw [tick_dmc]; exact h.dmc.advance s.cfg

end Sys2Proof.Machine

namespace Sys2Proof.Spec

open Sys2Proof.Machine

/-- R281, R185: the triangle holds the value of its first step, and no other channel puts out anything. -/
theorem tick_out_of_idle {s : State} (h : s.Idle) : (tick s).out = ⟨0, 0, 15, 0, 0⟩ := by
  have hp1 : (frameTick s).p1.len.counter = 0 := by rw [frameTick_p1_len, h.p1.halfFrame, h.p1.counter]
  have hp2 : (frameTick s).p2.len.counter = 0 := by rw [frameTick_p2_len, h.p2.halfFrame, h.p2.counter]
  have hnoise : (frameTick s).noise.len.counter = 0 := by rw [frameTick_noise_len, h.noise.halfFrame, h.noise.counter]
  rw [tick_out, pulseLevel_of_silent (.inl hp1), pulseLevel_of_silent (.inl hp2), noiseLevel_of_exhausted hnoise,
    frameTick_tri_stepCounter, h.triStep, h.dmc.level]
  rfl

theorem ticks_idle {s : State} (h : s.Idle) (n : ℕ) : (ticks n s).Idle := by
  induction n with
  | zero => exact h
  | succ n ih => rw [ticks_succ]; exact ih.tick

/-- Settles O50: the reset state is idle, ticks keep it so, and an idle machine puts out nothing but the triangle's
first step. -/
theorem afterResetEveryChannelIsSilentAndTheTriangleHolds15 :
    Obligations.AfterResetEveryChannelIsSilentAndTheTriangleHolds15 := by
  intro c n
  rw [ticks_succ]
  exact tick_out_of_idle (ticks_idle (resetWith_idle c) n)

/-- Settles O26: both are the one reset operation, whose frame counter is the table's first entry. -/
theorem powerAndResetGiveTheResetState : Obligations.PowerAndResetGiveTheResetState := fun s =>
  ⟨applyReset s, exec_power_or_reset (.inr rfl) s, exec_power_or_reset (.inl rfl) s, rfl, rfl, rfl, rfl, rfl, rfl, rfl,
    rfl, rfl, rfl, framePeriod_eq s.cfg false 0 (by decide), rfl⟩

/-- Settles O27: the reset values hold nothing pending, so that a delivery finds no request. -/
theorem nothingInFlightSurvivesAReset : Obligations.NothingInFlightSurvivesAReset := by
  intro s i hi
  refine ⟨_, exec_power_or_reset hi s, ?_, rfl, rfl, rfl, exec_dmaDeliver_of_unrequested rfl⟩
  rintro l (rfl | rfl | rfl | rfl) <;> exact ⟨rfl, rfl⟩

/-- Settles O54: the reset values meet each unit's part of the invariant, and the default tables are legal. -/
theorem resetStateHasTheInvariant : Obligations.ResetStateHasTheInvariant :=
  ⟨fun _ => resetWith_inv, defaultConfigFor_wf, resetWith_inv (defaultConfigFor_wf .ntsc)⟩

end Sys2Proof.Spec
end
